-- ==== Sys2Proof/Word.lean ====
section
/-! DEFINITION. The widths of the block's values: bytes, 4-bit codes and 16-bit words (00 R9, 10 R23 to R35). Nothing here is signed. -/

namespace Sys2Proof

/-- A byte, the source's octet: 8 bits, unsigned (00 R9). -/
abbrev Byte := BitVec 8

/-- A 4-bit value: a DpadCode (10 R24) or the frame length (10 R29). -/
abbrev Nibble := BitVec 4

/-- A 16-bit value: a command (30 R70), the ButtonMask (10 R23) or a response's data (30 R73). -/
abbrev Word := BitVec 16

end Sys2Proof
end

