-- ==== Sys2Proof/Config.lean ====
section
/-! DEFINITION. The configuration of the block: the wire constants of 00 R7 under the spec's own names, the parameter TEXT_MAX of 00 R8, the free value a `RxTry()` answers (20 R53), and the nominal durations of 70 R213, the host's and the channel's. The literals are the source's and unaudited (93 U1, log entry 8). -/

namespace Sys2Proof.Config

/-- Bytes in an InputPacket (00 R7). -/
def FRAME_LEN : Nat := 9

/-- Bytes the checksum covers (00 R7). -/
def PAYLOAD_LEN : Nat := 8

/-- Polynomial XORed in after a shift that dropped a set high bit (00 R7, 40 R90). -/
def CRC_POLY : Byte := 0x07#8

/-- Accumulator start value (00 R7, 40 R90). -/
def CRC_INIT : Byte := 0x00#8

/-- DpadCode of CENTER, the default (00 R7, 30 R77). -/
def DPAD_CENTER : Nibble := 0x8#4

/-- Neutral value of every analog axis, the default (00 R7). -/
def AXIS_NEUTRAL : Byte := 0x80#8

/-- Default vendor byte (00 R7). -/
def VENDOR_DEFAULT : Byte := 0x00#8

/-- The acknowledgment byte the bridge is expected to send (00 R7, 41 R105). -/
def ACK_EXPECTED : Byte := 0x90#8

/-- The display-frame prefix, ASCII "123456789" (00 R7, 43 R136). -/
def SENTINEL : List Byte := [0x31#8, 0x32#8, 0x33#8, 0x34#8, 0x35#8, 0x36#8, 0x37#8, 0x38#8, 0x39#8]

/-- Length of `SENTINEL` (00 R7). -/
def SENTINEL_LEN : Nat := 9

/-- ASCII space, the text substituted for an empty display text (00 R7, 43 R135). -/
def TEXT_FILL : Byte := 0x20#8

/-- Named buttons, one mask bit each (00 R7). -/
def N_BUTTONS : Nat := 16

/-- Named dpad directions (00 R7). -/
def N_DPAD : Nat := 9

/-- A number nothing is known of: which capacity an implementation chose for its text buffer (00 R8, 92 D11). -/
opaque textCapacity : Nat

/-- `TEXT_MAX` (00 R8, 10 R32): the capacity of the text buffer after reset, any number from 1 to 65535. The bounds are the spec's; the value is free (log entry 3). -/
def TEXT_MAX : Nat := textCapacity % 65535 + 1

/-- FREE VALUE: what the n-th `RxTry()` answers when the state names no answer (20 R53, 92 D22, 93 U2): a byte, or `none` when no byte arrives in time. A draw under no law (log entry 2). -/
opaque rxDraw : Nat → Option Byte

/-- The host's settle after a buffer-clear, before handshake step 1: about 100 ms (70 R213). -/
def SETTLE_AFTER_CLEAR_MS : Nat := 100

/-- The host's wait between a handshake write and its read: about 50 ms (70 R213). -/
def HANDSHAKE_STEP_MS : Nat := 50

/-- The host's sleep between failed handshake attempts: about 500 ms (70 R213). -/
def RETRY_SLEEP_MS : Nat := 500

/-- The host's settle after a successful handshake: about 3 s (45 R170, 70 R213). -/
def READY_SETTLE_MS : Nat := 3000

/-- The default hold between press and release: 300 ms (41 R107, 70 R213). -/
def PRESS_HOLD_MS : Nat := 300

/-- The channel's read timeout: 1 s (70 R213). It bounds a `RxTry()` and changes no answer. -/
def CHANNEL_READ_TIMEOUT_MS : Nat := 1000

end Sys2Proof.Config
end

