-- ==== Sys2Proof/Machine/State.lean ====
section
/-! DEFINITION. The state of the block as plain data: the register file of 10, the two byte buffers, what happened on the byte channel, the responses given, and the inputs the host and the channel have yet to supply. Fault has no constructor because no command can fault (60 R196). -/

namespace Sys2Proof.Machine

/-- The nine bytes of an InputPacket, byte 0 first (30 R74); the frame buffer `FRM[0..8]` has this layout (10 R28). -/
@[ext]
structure Frame where
  /-- byte 0 -/
  buttonsLsb : Byte
  /-- byte 1 -/
  buttonsMsb : Byte
  /-- byte 2 -/
  dpadCode : Byte
  /-- byte 3 -/
  lx : Byte
  /-- byte 4 -/
  ly : Byte
  /-- byte 5 -/
  rx : Byte
  /-- byte 6 -/
  ry : Byte
  /-- byte 7 -/
  vendor : Byte
  /-- byte 8, the spec's crc8 -/
  check : Byte
  deriving DecidableEq, Repr

/-- The response codes (60 R180). Their numbers are `RespCode.number` in Machine/Ops.lean. -/
inductive RespCode where
  | ok | illegalCommand | unknownInput | checksumError | badDpadCode | frameLength | nonAscii | textOverflow | badRegister
  deriving DecidableEq, Repr

/-- The response that ends a command: a code and 16 bits of data (30 R73). -/
structure Response where
  code : RespCode
  data : Word
  deriving DecidableEq, Repr

/-- One thing the block did on the byte channel (20 R52, R53). -/
inductive ChannelEvent where
  /-- a `RxTry()` and its answer -/
  | read (answer : Option Byte)
  /-- a `TxEmit` of one whole frame -/
  | write (frame : List Byte)
  deriving DecidableEq, Repr

/-- Why the machine stops. Nobody raises a fault: every outcome of every command is a next state (60 R196, log entry 9). -/
inductive Fault where
  deriving DecidableEq, Repr

/-- Why a command has no meaning in the model. -/
inductive Refusal where
  /-- Raised only by an arm of `exec` for a command not modelled yet; safe. No arm raises it: all 18 commands have their meaning. -/
  | notModelled (mnemonic : String)
  deriving DecidableEq, Repr

/-- The state. The first block of fields is the block's registers (10 R23 to R35), the second what the model records of its outputs (20 R52, 30 R73), the third the inputs still to come (10 R21; log entries 1 and 2). -/
@[ext]
structure State where
  /-- `BTN` (10 R23) -/
  btn : Word
  /-- `DPAD` (10 R24) -/
  dpad : Nibble
  /-- `LX` (10 R25) -/
  lx : Byte
  /-- `LY` (10 R25) -/
  ly : Byte
  /-- `RX` (10 R25) -/
  rx : Byte
  /-- `RY` (10 R25) -/
  ry : Byte
  /-- `VND` (10 R26) -/
  vnd : Byte
  /-- `CRC` (10 R27) -/
  crc : Byte
  /-- `FRM[0..8]` (10 R28) -/
  frm : Frame
  /-- `FLEN` (10 R29) -/
  flen : Nibble
  /-- `D_BTN` (10 R30) -/
  dBtn : Word
  /-- `D_DPAD` (10 R30) -/
  dDpad : Nibble
  /-- `D_LX` (10 R30) -/
  dLx : Byte
  /-- `D_LY` (10 R30) -/
  dLy : Byte
  /-- `D_RX` (10 R30) -/
  dRx : Byte
  /-- `D_RY` (10 R30) -/
  dRy : Byte
  /-- `D_VND` (10 R30) -/
  dVnd : Byte
  /-- `TBUF[0..TEXT_MAX-1]` (10 R31); its length is the block's TEXT_MAX (log entry 3) -/
  tbuf : List Byte
  /-- `TLEN` (10 R32) -/
  tlen : Word
  /-- `STATUS` (10 R33) -/
  status : Byte
  /-- `ACK` (10 R35) -/
  ack : Byte
  /-- every read and write the block did on the channel, oldest first (20 R52, R53, R58; log entry 4) -/
  channel : List ChannelEvent
  /-- every response given, oldest first (30 R73, 60 R196; log entry 4) -/
  responses : List Response
  /-- the commands the host has yet to present, the next one first (10 R22; log entry 1) -/
  hostCmds : List Word
  /-- the answers the next `RxTry()` calls get, the next one first; when it is empty the answer is free (20 R53; log entry 2) -/
  rxTape : List (Option Byte)
  /-- how many `RxTry()` there have been: the argument of the free value `Config.rxDraw` (log entry 2) -/
  rxDraws : Nat
  deriving DecidableEq, Repr

/-- The block after reset (10 R39) with a text buffer of `capacity` bytes: no command presented, nothing yet on the channel, no answer named. -/
def State.resetWith (capacity : Nat) : State where
  btn := 0x0000#16
  dpad := Config.DPAD_CENTER
  lx := Config.AXIS_NEUTRAL
  ly := Config.AXIS_NEUTRAL
  rx := Config.AXIS_NEUTRAL
  ry := Config.AXIS_NEUTRAL
  vnd := Config.VENDOR_DEFAULT
  crc := Config.CRC_INIT
  frm := ⟨0x00#8, 0x00#8, 0x00#8, 0x00#8, 0x00#8, 0x00#8, 0x00#8, 0x00#8, 0x00#8⟩
  flen := 0#4
  dBtn := 0x0000#16
  dDpad := Config.DPAD_CENTER
  dLx := Config.AXIS_NEUTRAL
  dLy := Config.AXIS_NEUTRAL
  dRx := Config.AXIS_NEUTRAL
  dRy := Config.AXIS_NEUTRAL
  dVnd := Config.VENDOR_DEFAULT
  tbuf := List.replicate capacity 0x00#8
  tlen := 0#16
  status := 0x00#8
  ack := 0x00#8
  channel := []
  responses := []
  hostCmds := []
  rxTape := []
  rxDraws := 0

/-- The machine right after reset (10 R39, 70 R200), its text buffer of TEXT_MAX bytes. -/
def State.reset : State := State.resetWith Config.TEXT_MAX

end Sys2Proof.Machine
end

