-- ==== Sys2Proof/Machine/Flags.lean ====
section
/-! DEFINITION. The eight bits of STATUS by name (10 R33): reading one, writing one, and writing the three decode flags together. -/

namespace Sys2Proof.Machine

/-- The flags of STATUS (10 R33). -/
inductive Flag where
  | unk | nasc | tovf | dvalid | crcerr | dperr | ackv | ackm
  deriving DecidableEq, Repr

/-- The bit position of a flag (10 R33). -/
def Flag.bit : Flag → Nat
  | .unk => 0 | .nasc => 1 | .tovf => 2 | .dvalid => 3 | .crcerr => 4 | .dperr => 5 | .ackv => 6 | .ackm => 7

/-- Every flag, bit 0 first. -/
def Flag.all : List Flag := [.unk, .nasc, .tovf, .dvalid, .crcerr, .dperr, .ackv, .ackm]

/-- A byte with one bit set and the others 0. -/
def Flag.mask (f : Flag) : Byte := 0x01#8 <<< f.bit

/-- The STATUS byte with one flag written and the others as they were. -/
def statusWith (st : Byte) (f : Flag) (v : Bool) : Byte :=
  if v then st ||| f.mask else st &&& ~~~f.mask

/-- A flag's value. -/
def State.flag (s : State) (f : Flag) : Bool := s.status.getLsbD f.bit

/-- Write one flag. -/
def State.setFlag (s : State) (f : Flag) (v : Bool) : State :=
  { s with status := statusWith s.status f v }

/-- Write `DVALID`, `CRCERR` and `DPERR` together, as `DCHK` does (42 R124) and as the commands that empty or refill `FRM` do with three zeros (10 R33). -/
def State.setDecodeFlags (s : State) (dvalid crcerr dperr : Bool) : State :=
  ((s.setFlag .dvalid dvalid).setFlag .crcerr crcerr).setFlag .dperr dperr

end Sys2Proof.Machine
end

