-- ==== Sys2Proof/Syntax/Operand.lean ====
section
/-! DEFINITION. The named operands of a command: the 16 Buttons, the 9 DpadDirections and the LogicalInput that `PUSH` takes (30 R76 to R78), and the registers that `RD` names (10 R36). Their numbers stand in Sys2Proof/Decode.lean. -/

namespace Sys2Proof

/-- The 16 Buttons, in the source's order (30 R76). `lTrig` and `rTrig` are the Buttons the source calls L and R; the directions left and right are other inputs (90 C1). -/
inductive Button where
  | minus | plus | lClk | rClk | home | capture | sl | sr
  | y | b | a | x | lTrig | rTrig | zl | zr
  deriving DecidableEq, Repr

/-- The 9 DpadDirections (30 R77): clockwise from up, then CENTER. -/
inductive DpadDirection where
  | up | upRight | right | downRight | down | downLeft | left | upLeft | center
  deriving DecidableEq, Repr

/-- The operand of `PUSH` (30 R78): one of the 25 LogicalInputs, or a code that names nothing. -/
inductive LogicalInput where
  /-- a Button, codes 0x00 to 0x0F -/
  | button (k : Button)
  /-- a DpadDirection, codes 0x10 to 0x18 -/
  | dpad (d : DpadDirection)
  /-- a code 0x19 to 0xFF, the hardware form of a name matching neither family -/
  | unknown (code : Byte)
  deriving DecidableEq, Repr

/-- The registers that have a number (10 R36). `frm i` is `FRM[i]`. -/
inductive Reg where
  | btn | dpad | lx | ly | rx | ry | vnd | crc | status | ack | flen | tlen
  | frm (i : Fin 9)
  | dBtn | dDpad | dLx | dLy | dRx | dRy | dVnd
  deriving DecidableEq, Repr

/-- The operand of `RD`: a register, or a number no register has (44 R152). -/
inductive RegSel where
  | reg (r : Reg)
  | unassigned (number : Byte)
  deriving DecidableEq, Repr

end Sys2Proof
end

