-- ==== Sys2Proof/Syntax.lean ====
section
/-! DEFINITION. The 18 commands of the opcode table (30 R72), one constructor per row of spec/opcode_table.json. -/

namespace Sys2Proof

/-- A command (30 R72). The operand of each is of the class the table gives it (30 R71). -/
inductive Instr where
  /-- `NOP` (44 R150) -/
  | nop
  /-- `CLR` (41 R110) -/
  | clr
  /-- `PUSH li` (41 R111) -/
  | push (li : LogicalInput)
  /-- `SETLX v` (41 R113) -/
  | setlx (v : Byte)
  /-- `SETLY v` (41 R114) -/
  | setly (v : Byte)
  /-- `SETRX v` (41 R115) -/
  | setrx (v : Byte)
  /-- `SETRY v` (41 R116) -/
  | setry (v : Byte)
  /-- `SETVND v` (41 R117) -/
  | setvnd (v : Byte)
  /-- `EMIT` (41 R112) -/
  | emit
  /-- `CRCINIT` (40 R95) -/
  | crcinit
  /-- `CRCBYTE b` (40 R96) -/
  | crcbyte (b : Byte)
  /-- `DBEG` (42 R122) -/
  | dbeg
  /-- `DBYTE b` (42 R123) -/
  | dbyte (b : Byte)
  /-- `DCHK` (42 R124) -/
  | dchk
  /-- `TCLR` (43 R139) -/
  | tclr
  /-- `TCHR c` (43 R140) -/
  | tchr (c : Byte)
  /-- `TSEND` (43 R141) -/
  | tsend
  /-- `RD r` (44 R151) -/
  | rd (r : RegSel)
  deriving DecidableEq, Repr

end Sys2Proof
end

