-- ==== Sys2Proof/WellFormed.lean ====
section
/-! DEFINITION. Which terms of `Instr` stand for a command word: an unknown input carries a code that names nothing (30 R78) and an unassigned register number is one of 44 R152. Every other operand is legal (30 R83 (d)). -/

namespace Sys2Proof

/-- The codes that name no LogicalInput: 0x19 to 0xFF (30 R78), those past the Buttons' and the directions'. -/
def unknownCode (code : Byte) : Bool := Config.N_BUTTONS + Config.N_DPAD ≤ code.toNat

/-- The register numbers 44 R152 lists as unassigned: 0x0C to 0x0F, 0x19 to 0x1F and 0x27 to 0xFF. -/
def unassignedNumber (n : Byte) : Bool :=
  (0x0C ≤ n.toNat && n.toNat ≤ 0x0F) || (0x19 ≤ n.toNat && n.toNat ≤ 0x1F) || 0x27 ≤ n.toNat

/-- The term is a command the host can present. -/
def Instr.wf : Instr → Bool
  | .push (.unknown code) => unknownCode code
  | .rd (.unassigned n) => unassignedNumber n
  | .nop | .clr | .push (.button _) | .push (.dpad _) | .setlx _ | .setly _ | .setrx _ | .setry _ | .setvnd _ | .emit
  | .crcinit | .crcbyte _ | .dbeg | .dbyte _ | .dchk | .tclr | .tchr _ | .tsend | .rd (.reg _) => true

end Sys2Proof
end

