-- ==== Sys2Proof/Decode.lean ====
section
/-! DEFINITION. Decoding a command word (30 R70 to R72, R78, R82; 10 R36), total on every 16-bit word and refusing by name, and after it the encoder from the same tables (30 R88). -/

namespace Sys2Proof

/-! ### The tables of named operands -/

/-- The mask bit of a Button (30 R76). -/
def Button.bit : Button → Nat
  | .minus => 0 | .plus => 1 | .lClk => 2 | .rClk => 3
  | .home => 4 | .capture => 5 | .sl => 6 | .sr => 7
  | .y => 8 | .b => 9 | .a => 10 | .x => 11
  | .lTrig => 12 | .rTrig => 13 | .zl => 14 | .zr => 15

/-- Every Button, in the order of 30 R76. -/
def Button.all : List Button :=
  [.minus, .plus, .lClk, .rClk, .home, .capture, .sl, .sr, .y, .b, .a, .x, .lTrig, .rTrig, .zl, .zr]

/-- The DpadCode of a direction (30 R77). -/
def DpadDirection.code : DpadDirection → Nibble
  | .up => 0x0#4 | .upRight => 0x1#4 | .right => 0x2#4 | .downRight => 0x3#4 | .down => 0x4#4
  | .downLeft => 0x5#4 | .left => 0x6#4 | .upLeft => 0x7#4 | .center => Config.DPAD_CENTER

/-- Every direction, in the order of 30 R77. -/
def DpadDirection.all : List DpadDirection :=
  [.up, .upRight, .right, .downRight, .down, .downLeft, .left, .upLeft, .center]

/-- The LogicalInput code (30 R78): a Button's bit number, 0x10 plus a direction's DpadCode, or the code that names nothing. -/
def LogicalInput.code : LogicalInput → Byte
  | .button k => BitVec.ofNat 8 k.bit
  | .dpad d => BitVec.ofNat 8 Config.N_BUTTONS + d.code.setWidth 8
  | .unknown c => c

/-- The 25 LogicalInputs that have a name (30 R78). -/
def LogicalInput.named : List LogicalInput := Button.all.map .button ++ DpadDirection.all.map .dpad

/-- The LogicalInput a code stands for (30 R78): the named one with that code, else unknown. -/
def LogicalInput.ofCode (c : Byte) : LogicalInput :=
  match LogicalInput.named.find? (fun li => li.code == c) with
  | some li => li
  | none => .unknown c

/-- The register numbers (10 R36). -/
def Reg.number : Reg → Byte
  | .btn => 0x00#8 | .dpad => 0x01#8 | .lx => 0x02#8 | .ly => 0x03#8 | .rx => 0x04#8 | .ry => 0x05#8
  | .vnd => 0x06#8 | .crc => 0x07#8 | .status => 0x08#8 | .ack => 0x09#8 | .flen => 0x0A#8 | .tlen => 0x0B#8
  | .frm i => 0x10#8 + BitVec.ofNat 8 i.val
  | .dBtn => 0x20#8 | .dDpad => 0x21#8 | .dLx => 0x22#8 | .dLy => 0x23#8 | .dRx => 0x24#8 | .dRy => 0x25#8
  | .dVnd => 0x26#8

/-- Every numbered register, in the order of 10 R36. -/
def Reg.all : List Reg :=
  [.btn, .dpad, .lx, .ly, .rx, .ry, .vnd, .crc, .status, .ack, .flen, .tlen,
    .frm 0, .frm 1, .frm 2, .frm 3, .frm 4, .frm 5, .frm 6, .frm 7, .frm 8,
    .dBtn, .dDpad, .dLx, .dLy, .dRx, .dRy, .dVnd]

/-- The register a number names (10 R36), or the unassigned number itself (44 R152). -/
def RegSel.ofNumber (n : Byte) : RegSel :=
  match Reg.all.find? (fun r => r.number == n) with
  | some r => .reg r
  | none => .unassigned n

/-- The number an `RD` operand carries. -/
def RegSel.number : RegSel → Byte
  | .reg r => r.number
  | .unassigned n => n

/-! ### Decoding -/

/-- Why a word is no command (30 R82). -/
inductive DecodeError where
  /-- the opcode is not in the table of 30 R72 -/
  | unassignedOpcode (op : Byte)
  /-- a command that takes no operand with a non-zero operand byte -/
  | nonzeroOperand (op arg : Byte)
  deriving DecidableEq, Repr

/-- What a word decodes to: a command, or an illegal word with the reason. -/
inductive Decoded where
  | command (i : Instr)
  | illegal (why : DecodeError)
  deriving DecidableEq, Repr

/-- Bits 15 to 8 of a command word (30 R70). -/
def wordOp (w : Word) : Byte := w.extractLsb' 8 8

/-- Bits 7 to 0 of a command word (30 R70). -/
def wordArg (w : Word) : Byte := w.extractLsb' 0 8

/-- A command of operand class `none`: legal only with operand byte 0x00 (30 R71, R82). -/
def noOperand (op arg : Byte) (i : Instr) : Decoded :=
  if arg = 0x00#8 then .command i else .illegal (.nonzeroOperand op arg)

/-- The opcode map (30 R72) applied to the two fields of a word. -/
def decodeFields (op arg : Byte) : Decoded :=
  match op with
  | 0x00#8 => noOperand op arg .nop
  | 0x01#8 => noOperand op arg .clr
  | 0x02#8 => .command (.push (LogicalInput.ofCode arg))
  | 0x03#8 => .command (.setlx arg)
  | 0x04#8 => .command (.setly arg)
  | 0x05#8 => .command (.setrx arg)
  | 0x06#8 => .command (.setry arg)
  | 0x07#8 => .command (.setvnd arg)
  | 0x08#8 => noOperand op arg .emit
  | 0x10#8 => noOperand op arg .crcinit
  | 0x11#8 => .command (.crcbyte arg)
  | 0x20#8 => noOperand op arg .dbeg
  | 0x21#8 => .command (.dbyte arg)
  | 0x22#8 => noOperand op arg .dchk
  | 0x30#8 => noOperand op arg .tclr
  | 0x31#8 => .command (.tchr arg)
  | 0x32#8 => noOperand op arg .tsend
  | 0x40#8 => .command (.rd (RegSel.ofNumber arg))
  | _ => .illegal (.unassignedOpcode op)

/-- The decoder: total on every 16-bit word (30 R70, R72, R82). -/
def decode (w : Word) : Decoded := decodeFields (wordOp w) (wordArg w)

/-! ### Encoding -/

/-- The opcode of a command (30 R72). -/
def Instr.opcode : Instr → Byte
  | .nop => 0x00#8 | .clr => 0x01#8 | .push _ => 0x02#8
  | .setlx _ => 0x03#8 | .setly _ => 0x04#8 | .setrx _ => 0x05#8 | .setry _ => 0x06#8 | .setvnd _ => 0x07#8
  | .emit => 0x08#8
  | .crcinit => 0x10#8 | .crcbyte _ => 0x11#8
  | .dbeg => 0x20#8 | .dbyte _ => 0x21#8 | .dchk => 0x22#8
  | .tclr => 0x30#8 | .tchr _ => 0x31#8 | .tsend => 0x32#8
  | .rd _ => 0x40#8

/-- The operand byte of a command: 0x00 where it takes none (30 R71, R88). -/
def Instr.operand : Instr → Byte
  | .nop | .clr | .emit | .crcinit | .dbeg | .dchk | .tclr | .tsend => 0x00#8
  | .push li => li.code
  | .setlx v | .setly v | .setrx v | .setry v | .setvnd v => v
  | .crcbyte b | .dbyte b => b
  | .tchr c => c
  | .rd r => r.number

/-- The command word, opcode in bits 15 to 8 and operand in bits 7 to 0 (30 R70, R88). -/
def encode (i : Instr) : Word := i.opcode ++ i.operand

/-- A word given as a number of `nbits` bits, bit 0 least significant; bits above `nbits` are 0. -/
def tableWord (nbits w : Nat) : Word := BitVec.ofNat 16 (w % 2 ^ nbits)

/-- The command the decoder reads from a word numbered as spec/opcode_table.json numbers it. A command is one 16-bit word (30 R70), so there is no byte order to choose. -/
def decodeTableWord (nbits w : Nat) : Option Instr :=
  match decode (tableWord nbits w) with
  | .command i => some i
  | .illegal _ => none

end Sys2Proof
end

