-- ==== Sys2Proof/Machine/Crc.lean ====
section
/-! DEFINITION. The Checksum Engine's function (40 R90): one iteration, one byte, a sequence of bytes. -/

namespace Sys2Proof.Machine

/-- One of the eight iterations (40 R90): the high bit is read before the shift; the shift drops it. -/
def crcIter (acc : Byte) : Byte :=
  if acc.getLsbD 7 then (acc <<< 1) ^^^ Config.CRC_POLY else acc <<< 1

/-- `n` iterations. -/
def crcIters : Nat → Byte → Byte
  | 0, acc => acc
  | n + 1, acc => crcIters n (crcIter acc)

/-- `step(acc, b)`: fold one byte into the accumulator (40 R90). -/
def crcStep (acc b : Byte) : Byte := crcIters 8 (acc ^^^ b)

/-- Fold a sequence of bytes, index 0 first, from a given accumulator (40 R90, R93 (e)). -/
def crcFold (acc : Byte) (bytes : List Byte) : Byte := bytes.foldl crcStep acc

/-- `crc8` of a sequence of any length (40 R90, R91). -/
def crc8 (bytes : List Byte) : Byte := crcFold Config.CRC_INIT bytes

end Sys2Proof.Machine
end

