-- ==== Sys2Proof/Machine/Packet.lean ====
section
/-! DEFINITION. The wire formats and the source's operations on them as functions: the frame's bytes by index (30 R74), encode (41 R100 to R103), decode (42 R120), the display frame (43 R135) and the receiver's classification (30 R80). -/

namespace Sys2Proof.Machine

/-! ### The nine bytes of a frame -/

/-- All nine bytes, byte 0 first (30 R74). -/
def Frame.bytes (f : Frame) : List Byte :=
  [f.buttonsLsb, f.buttonsMsb, f.dpadCode, f.lx, f.ly, f.rx, f.ry, f.vendor, f.check]

/-- The payload: the PAYLOAD_LEN bytes the checksum covers, byte 0 first (30 R74). -/
def Frame.payload (f : Frame) : List Byte := f.bytes.take Config.PAYLOAD_LEN

/-- Whether a frame's byte 2 is the DpadCode of one of the N_DPAD directions: 0x00 to 0x08 (30 R77, R83 (b)). -/
def legalDpadCode (b : Byte) : Bool := decide (b.toNat < Config.N_DPAD)

/-- `FRM[i]`. -/
def Frame.get (f : Frame) : Fin 9 → Byte
  | 0 => f.buttonsLsb | 1 => f.buttonsMsb | 2 => f.dpadCode
  | 3 => f.lx | 4 => f.ly | 5 => f.rx | 6 => f.ry
  | 7 => f.vendor | 8 => f.check

/-- `FRM[i] <- b`; an index the buffer does not have writes nothing (never reached, log entry 5). -/
def Frame.put (f : Frame) (i : Nat) (b : Byte) : Frame :=
  match i with
  | 0 => { f with buttonsLsb := b }
  | 1 => { f with buttonsMsb := b }
  | 2 => { f with dpadCode := b }
  | 3 => { f with lx := b }
  | 4 => { f with ly := b }
  | 5 => { f with rx := b }
  | 6 => { f with ry := b }
  | 7 => { f with vendor := b }
  | 8 => { f with check := b }
  | _ => f

/-! ### Encode (41) -/

/-- The seven values an InputPacket carries: the fields encode assembles and decode recovers (41 R102, 42 R120). -/
@[ext]
structure PacketFields where
  mask : Word
  code : Nibble
  lx : Byte
  ly : Byte
  rx : Byte
  ry : Byte
  vendor : Byte
  deriving DecidableEq, Repr

/-- The eight payload bytes in the fixed order, mask least significant byte first, dpad code zero-extended (41 R102, 30 R75). -/
def PacketFields.payload (p : PacketFields) : List Byte :=
  [p.mask.extractLsb' 0 8, p.mask.extractLsb' 8 8, p.code.setWidth 8, p.lx, p.ly, p.rx, p.ry, p.vendor]

/-- Step 3 of encode: the payload with its checksum as the ninth byte (41 R102). -/
def PacketFields.assemble (p : PacketFields) : Frame where
  buttonsLsb := p.mask.extractLsb' 0 8
  buttonsMsb := p.mask.extractLsb' 8 8
  dpadCode := p.code.setWidth 8
  lx := p.lx
  ly := p.ly
  rx := p.rx
  ry := p.ry
  vendor := p.vendor
  check := crc8 p.payload

/-- A Button's bit in the mask (30 R76). -/
def buttonMask (k : Button) : Word := 0x0001#16 <<< k.bit

/-- Steps 1 and 2 of encode, from a mask and code already gathered: Buttons OR in, the last direction wins, an unknown input fails the call (41 R101). -/
def gatherFrom (mask : Word) (code : Nibble) : List LogicalInput → Option (Word × Nibble)
  | [] => some (mask, code)
  | .button k :: rest => gatherFrom (mask ||| buttonMask k) code rest
  | .dpad d :: rest => gatherFrom mask d.code rest
  | .unknown _ :: _ => none

/-- Steps 1 and 2 of encode (41 R101): start with mask 0 and CENTER. -/
def gather (inputs : List LogicalInput) : Option (Word × Nibble) :=
  gatherFrom 0x0000#16 Config.DPAD_CENTER inputs

/-- The analog values and vendor byte of one encode call, with the source's defaults (41 R100). -/
structure Analog where
  lx : Byte := Config.AXIS_NEUTRAL
  ly : Byte := Config.AXIS_NEUTRAL
  rx : Byte := Config.AXIS_NEUTRAL
  ry : Byte := Config.AXIS_NEUTRAL
  vendor : Byte := Config.VENDOR_DEFAULT
  deriving DecidableEq, Repr

/-- The source's encode operation (41 R100): a frame, or nothing when an input is unknown (UnknownInputError). -/
def encodePacket (inputs : List LogicalInput) (v : Analog) : Option Frame :=
  (gather inputs).map fun (mask, code) =>
    PacketFields.assemble ⟨mask, code, v.lx, v.ly, v.rx, v.ry, v.vendor⟩

/-! ### Decode (42) -/

/-- What the source's decode operation answers (42 R120). -/
inductive DecodeResult where
  | fields (p : PacketFields)
  | corrupt
  | badDpadCode
  deriving DecidableEq, Repr

/-- The fields of a frame's bytes, no check made (30 R75, 42 R120). -/
def Frame.fields (f : Frame) : PacketFields where
  mask := f.buttonsMsb ++ f.buttonsLsb
  code := f.dpadCode.setWidth 4
  lx := f.lx
  ly := f.ly
  rx := f.rx
  ry := f.ry
  vendor := f.vendor

/-- The source's decode operation (42 R120): checksum first, then the dpad code. -/
def decodePacket (f : Frame) : DecodeResult :=
  if f.check ≠ crc8 f.payload then .corrupt
  else if !legalDpadCode f.dpadCode then .badDpadCode
  else .fields f.fields

/-! ### Display frames (43) -/

/-- `encodeDisplayText` (43 R135): an empty text becomes one space; the sentinel comes first. -/
def encodeDisplayText (text : List Byte) : List Byte :=
  Config.SENTINEL ++ (if text = [] then [Config.TEXT_FILL] else text)

/-- The two kinds of frame on the channel (30 R80). -/
inductive FrameKind where
  | input | display
  deriving DecidableEq, Repr

/-- How a receiver tells the kinds apart: by the first nine bytes of a write (30 R80). -/
def classify9 (first9 : List Byte) : FrameKind :=
  if first9 = Config.SENTINEL then .display else .input

end Sys2Proof.Machine
end

