-- ==== Sys2Proof/Machine/Ops.lean ====
section
/-! DEFINITION. The shared operations over the state: taking a command, responding (which is also how an error is taken, 60 R187), the two channel primitives of 00 R10, the frame buffer, the text buffer, and reset as an event (70 R201). -/

namespace Sys2Proof.Machine

/-! ### Responses, and taking an error -/

/-- The number of a response code (60 R180). -/
def RespCode.number : RespCode → Byte
  | .ok => 0x00#8 | .illegalCommand => 0x01#8 | .unknownInput => 0x02#8 | .checksumError => 0x04#8
  | .badDpadCode => 0x05#8 | .frameLength => 0x06#8 | .nonAscii => 0x07#8 | .textOverflow => 0x08#8 | .badRegister => 0x09#8

/-- A response as the 24-bit word `{code, data}` (30 R73). -/
def Response.word (r : Response) : BitVec 24 := r.code.number ++ r.data

/-- End the command with a response (30 R73). An error is taken by this and nothing else (60 R187): no register is saved, no mode changes, control goes nowhere. -/
def State.respondWith (s : State) (code : RespCode) (data : Word) : State :=
  { s with responses := s.responses ++ [⟨code, data⟩] }

/-- `respond(code)`: the data is 0x0000 (30 R73). -/
def State.respond (s : State) (code : RespCode) : State := s.respondWith code 0x0000#16

/-! ### The command port -/

/-- The command the host presents is taken (20 R58). -/
def State.takeCommand (s : State) : State := { s with hostCmds := s.hostCmds.tail }

/-- The host is about to present these words, in this order (20 R58). -/
def State.present (s : State) (words : List Word) : State := { s with hostCmds := words }

/-! ### The byte channel -/

/-- The answer the next `RxTry()` gets: the one the tape names, else a free one (20 R53, log entry 2). -/
def State.rxAnswer (s : State) : Option Byte :=
  match s.rxTape with
  | a :: _ => a
  | [] => Config.rxDraw s.rxDraws

/-- `RxTry()`: the answer is used up and the read recorded (20 R53, R54). -/
def State.rxTry (s : State) : State :=
  { s with
    channel := s.channel ++ [.read s.rxAnswer]
    rxTape := s.rxTape.tail
    rxDraws := s.rxDraws + 1 }

/-- `TxEmit(s)`: one whole frame goes out (20 R52). -/
def State.txEmit (s : State) (frame : List Byte) : State :=
  { s with channel := s.channel ++ [.write frame] }

/-- The frames a channel history holds, oldest first. -/
def framesOf : List ChannelEvent → List (List Byte)
  | [] => []
  | .write f :: rest => f :: framesOf rest
  | .read _ :: rest => framesOf rest

/-- The transmit stream `TX` (20 R52). -/
def State.tx (s : State) : List (List Byte) := framesOf s.channel

/-! ### Encode side -/

/-- `FLEN` of a full frame buffer: FRAME_LEN (10 R29). -/
def fullCount : Nibble := BitVec.ofNat 4 Config.FRAME_LEN

/-- The registers of the packet being built (10 R23 to R26). -/
def State.packetFields (s : State) : PacketFields := ⟨s.btn, s.dpad, s.lx, s.ly, s.rx, s.ry, s.vnd⟩

/-- Put a frame in `FRM` as a successful `EMIT` does: nine valid bytes, its checksum in `CRC`, the decode flags cleared (41 R112). -/
def State.storeFrame (s : State) (f : Frame) : State :=
  State.setDecodeFlags { s with frm := f, flen := fullCount, crc := f.check } false false false

/-- A received byte is an AckMismatch when it is not 0x90 (60 R184); no byte is none. -/
def ackMismatch : Option Byte → Bool
  | some b => b != Config.ACK_EXPECTED
  | none => false

/-- Record an ack read in `ACK`, `ACKV` and `ACKM` (41 R112, 10 R33, R35). -/
def State.recordAck (s : State) (a : Option Byte) : State :=
  State.setFlag (State.setFlag { s with ack := a.getD 0x00#8 } .ackv a.isSome) .ackm (ackMismatch a)

/-! ### Decode side -/

/-- `FRM[FLEN] <- b; FLEN <- FLEN + 1` (42 R123). -/
def State.putFrameByte (s : State) (b : Byte) : State :=
  { s with frm := s.frm.put s.flen.toNat b, flen := s.flen + 1#4 }

/-- Write the seven decode registers together (10 R30, 42 R124). -/
def State.unpack (s : State) (p : PacketFields) : State :=
  { s with
    dBtn := p.mask, dDpad := p.code, dLx := p.lx, dLy := p.ly, dRx := p.rx, dRy := p.ry, dVnd := p.vendor }

/-! ### Display text -/

/-- The block's TEXT_MAX: the size of its text buffer (10 R31, log entry 3). -/
def State.textMax (s : State) : Nat := s.tbuf.length

/-- `TBUF[TLEN] <- c; TLEN <- TLEN + 1` (43 R140). -/
def State.putChar (s : State) (c : Byte) : State :=
  { s with tbuf := s.tbuf.set s.tlen.toNat c, tlen := s.tlen + 1#16 }

/-- The text gathered: `TBUF[0 .. TLEN-1]` (43 R141). -/
def State.text (s : State) : List Byte := s.tbuf.take s.tlen.toNat

/-! ### Reset -/

/-- Reset as an event between commands (70 R201): every register at the value of 10 R39; the channel, the responses already given and what the host and the channel have yet to supply stay. -/
def State.resetEvent (s : State) : State :=
  { State.resetWith s.textMax with
    channel := s.channel
    responses := s.responses
    hostCmds := s.hostCmds
    rxTape := s.rxTape
    rxDraws := s.rxDraws }

end Sys2Proof.Machine
end

