-- ==== Sys2Proof/Machine/Operands.lean ====
section
/-! DEFINITION. What the operand forms do in the machine: a LogicalInput pushed onto the packet being built (41 R111) and a register read by number (44 R151). The classes `byte` and `char` are used as they are (30 R71). -/

namespace Sys2Proof.Machine

/-- A known LogicalInput changes `BTN` or `DPAD`; an unknown one sets `UNK` (41 R111). -/
def State.applyInput (s : State) : LogicalInput → State
  | .button k => { s with btn := s.btn ||| buttonMask k }
  | .dpad d => { s with dpad := d.code }
  | .unknown _ => s.setFlag .unk true

/-- The response a LogicalInput gets (41 R111). -/
def inputResponse : LogicalInput → RespCode
  | .button _ | .dpad _ => .ok
  | .unknown _ => .unknownInput

/-- A register's value, zero-extended to 16 bits (10 R36, 44 R151). -/
def State.readReg (s : State) : Reg → Word
  | .btn => s.btn
  | .dpad => s.dpad.setWidth 16
  | .lx => s.lx.setWidth 16
  | .ly => s.ly.setWidth 16
  | .rx => s.rx.setWidth 16
  | .ry => s.ry.setWidth 16
  | .vnd => s.vnd.setWidth 16
  | .crc => s.crc.setWidth 16
  | .status => s.status.setWidth 16
  | .ack => s.ack.setWidth 16
  | .flen => s.flen.setWidth 16
  | .tlen => s.tlen
  | .frm i => (s.frm.get i).setWidth 16
  | .dBtn => s.dBtn
  | .dDpad => s.dDpad.setWidth 16
  | .dLx => s.dLx.setWidth 16
  | .dLy => s.dLy.setWidth 16
  | .dRx => s.dRx.setWidth 16
  | .dRy => s.dRy.setWidth 16
  | .dVnd => s.dVnd.setWidth 16

end Sys2Proof.Machine
end

