-- ==== Sys2Proof/Machine/Checksum.lean ====
section
/-! DEFINITION. The Checksum Engine's commands: `CRCINIT` and `CRCBYTE` (40 R95, R96). -/

namespace Sys2Proof.Machine

/-- `CRCINIT` (40 R95). -/
def execCrcinit (s : State) : Host.Outcome State Fault Refusal :=
  .next (State.respond { s with crc := Config.CRC_INIT } .ok)

/-- `CRCBYTE b` (40 R96): the accumulator continues from whatever it holds. -/
def execCrcbyte (b : Byte) (s : State) : Host.Outcome State Fault Refusal :=
  .next (State.respond { s with crc := crcStep s.crc b } .ok)

end Sys2Proof.Machine
end

