-- ==== Sys2Proof/Machine/DecodeSide.lean ====
section
/-! DEFINITION. The Packet Codec's decode commands: `DBEG`, `DBYTE` and `DCHK` (42 R122 to R124). -/

namespace Sys2Proof.Machine

/-- `DBEG` (42 R122): the bytes of `FRM` stay, they are no longer counted. -/
def execDbeg (s : State) : Host.Outcome State Fault Refusal :=
  .next (State.respond (State.setDecodeFlags { s with flen := 0#4 } false false false) .ok)

/-- `DBYTE b` (42 R123): a tenth byte is dropped. -/
def execDbyte (b : Byte) (s : State) : Host.Outcome State Fault Refusal :=
  .next
    (if s.flen = fullCount then s.respond .frameLength
     else ((s.putFrameByte b).setDecodeFlags false false false).respond .ok)

/-- What `DCHK` does with nine bytes in `FRM` (42 R124): the checksum goes to `CRC` and is tested first, then the dpad code, then the fields are unpacked. -/
def State.judgeFrame (s : State) : State :=
  let c := crc8 s.frm.payload
  let s := { s with crc := c }
  if c ≠ s.frm.check then (s.setDecodeFlags false true false).respond .checksumError
  else if !legalDpadCode s.frm.dpadCode then (s.setDecodeFlags false false true).respond .badDpadCode
  else ((s.unpack s.frm.fields).setDecodeFlags true false false).respond .ok

/-- `DCHK` (42 R124): with fewer than nine bytes `CRC` is not touched. -/
def execDchk (s : State) : Host.Outcome State Fault Refusal :=
  .next
    (if s.flen ≠ fullCount then (s.setDecodeFlags false false false).respond .frameLength
     else s.judgeFrame)

end Sys2Proof.Machine
end

