-- ==== Sys2Proof/Machine/Display.lean ====
section
/-! DEFINITION. The Display Side-Channel Encoder's commands: `TCLR`, `TCHR` and `TSEND` (43 R139 to R141). -/

namespace Sys2Proof.Machine

/-- `TCLR` (43 R139): the bytes of `TBUF` stay, they are no longer counted. -/
def execTclr (s : State) : Host.Outcome State Fault Refusal :=
  .next (State.respond (State.setFlag (State.setFlag { s with tlen := 0#16 } .nasc false) .tovf false) .ok)

/-- `TCHR c` (43 R140): the non-ASCII test comes before the test for a full buffer. -/
def execTchr (c : Byte) (s : State) : Host.Outcome State Fault Refusal :=
  .next
    (if 0x80 ≤ c.toNat then (s.setFlag .nasc true).respond .nonAscii
     else if s.tlen.toNat = s.textMax then (s.setFlag .tovf true).respond .textOverflow
     else (s.putChar c).respond .ok)

/-- The text a `TSEND` sends (43 R141): one space when `TLEN` is 0, else the characters gathered. The space is written to no buffer. -/
def State.displayText (s : State) : List Byte :=
  if s.tlen = 0#16 then [Config.TEXT_FILL] else s.text

/-- `TSEND` (43 R141): refused while the text is poisoned; otherwise one display frame goes out and no ack is read. -/
def execTsend (s : State) : Host.Outcome State Fault Refusal :=
  .next
    (if s.flag .nasc then s.respond .nonAscii
     else if s.flag .tovf then s.respond .textOverflow
     else (s.txEmit (Config.SENTINEL ++ s.displayText)).respond .ok)

end Sys2Proof.Machine
end

