-- ==== Sys2Proof/Machine/EncodeSide.lean ====
section
/-! DEFINITION. The Packet Codec's encode commands: `CLR`, `PUSH`, the five setters and `EMIT` (41 R110 to R117). -/

namespace Sys2Proof.Machine

/-- `CLR` (41 R110): every argument of an encode call at its default, `UNK` cleared. -/
def execClr (s : State) : Host.Outcome State Fault Refusal :=
  .next (State.respond
    (State.setFlag
      { s with
        btn := 0x0000#16
        dpad := Config.DPAD_CENTER
        lx := Config.AXIS_NEUTRAL
        ly := Config.AXIS_NEUTRAL
        rx := Config.AXIS_NEUTRAL
        ry := Config.AXIS_NEUTRAL
        vnd := Config.VENDOR_DEFAULT }
      .unk false)
    .ok)

/-- `PUSH li` (41 R111). -/
def execPush (li : LogicalInput) (s : State) : Host.Outcome State Fault Refusal :=
  .next ((s.applyInput li).respond (inputResponse li))

/-- `SETLX v` (41 R113). -/
def execSetlx (v : Byte) (s : State) : Host.Outcome State Fault Refusal :=
  .next (State.respond { s with lx := v } .ok)

/-- `SETLY v` (41 R114). -/
def execSetly (v : Byte) (s : State) : Host.Outcome State Fault Refusal :=
  .next (State.respond { s with ly := v } .ok)

/-- `SETRX v` (41 R115). -/
def execSetrx (v : Byte) (s : State) : Host.Outcome State Fault Refusal :=
  .next (State.respond { s with rx := v } .ok)

/-- `SETRY v` (41 R116). -/
def execSetry (v : Byte) (s : State) : Host.Outcome State Fault Refusal :=
  .next (State.respond { s with ry := v } .ok)

/-- `SETVND v` (41 R117). -/
def execSetvnd (v : Byte) (s : State) : Host.Outcome State Fault Refusal :=
  .next (State.respond { s with vnd := v } .ok)

/-- What an `EMIT` that is not refused does, in the order of 20 R59: assemble and checksum, read the ack, transmit. The ack's value changes nothing that is transmitted (41 R105). -/
def State.sendPacket (s : State) : State :=
  let f := s.packetFields.assemble
  let stored := s.storeFrame f
  let a := stored.rxAnswer
  ((stored.rxTry.recordAck a).txEmit f.bytes).respond .ok

/-- `EMIT` (41 R112): refused while `UNK` is set, with no register, flag or channel touched. -/
def execEmit (s : State) : Host.Outcome State Fault Refusal :=
  .next (if s.flag .unk then s.respond .unknownInput else s.sendPacket)

end Sys2Proof.Machine
end

