-- ==== Sys2Proof/Machine/SystemCommands.lean ====
section
/-! DEFINITION. The system commands `NOP` and `RD` (44 R150, R151), and the answer to a word that is no command (30 R82, 44 R153). -/

namespace Sys2Proof.Machine

/-- `NOP` (44 R150). -/
def execNop (s : State) : Host.Outcome State Fault Refusal :=
  .next (s.respond .ok)

/-- `RD r` (44 R151): no side effect; an unassigned number answers `BAD_REGISTER` (44 R152). -/
def execRd (r : RegSel) (s : State) : Host.Outcome State Fault Refusal :=
  .next
    (match r with
     | .reg r => s.respondWith .ok (s.readReg r)
     | .unassigned _ => s.respond .badRegister)

/-- An illegal word: nothing but the response `ILLEGAL_COMMAND` (30 R82). -/
def illegalWord (s : State) : Host.Outcome State Fault Refusal :=
  .next (s.respond .illegalCommand)

end Sys2Proof.Machine
end

