-- ==== Sys2Proof/Machine/Dispatch.lean ====
section
/-! DEFINITION. One arm per command (30 R72): each calls the meaning of its own. -/

namespace Sys2Proof.Machine

/-- Execute one command, start to end (20 R58). -/
def exec (i : Instr) (s : State) : Host.Outcome State Fault Refusal :=
  match i with
  | .nop => Sys2Proof.Machine.execNop s
  | .clr => Sys2Proof.Machine.execClr s
  | .push li => Sys2Proof.Machine.execPush li s
  | .setlx v => Sys2Proof.Machine.execSetlx v s
  | .setly v => Sys2Proof.Machine.execSetly v s
  | .setrx v => Sys2Proof.Machine.execSetrx v s
  | .setry v => Sys2Proof.Machine.execSetry v s
  | .setvnd v => Sys2Proof.Machine.execSetvnd v s
  | .emit => Sys2Proof.Machine.execEmit s
  | .crcinit => Sys2Proof.Machine.execCrcinit s
  | .crcbyte b => Sys2Proof.Machine.execCrcbyte b s
  | .dbeg => Sys2Proof.Machine.execDbeg s
  | .dbyte b => Sys2Proof.Machine.execDbyte b s
  | .dchk => Sys2Proof.Machine.execDchk s
  | .tclr => Sys2Proof.Machine.execTclr s
  | .tchr c => Sys2Proof.Machine.execTchr c s
  | .tsend => Sys2Proof.Machine.execTsend s
  | .rd r => Sys2Proof.Machine.execRd r s

end Sys2Proof.Machine
end

