-- ==== Sys2Proof/Machine/Step.lean ====
section
/-! DEFINITION. One step of the machine: the host presents its next command and the block executes it (10 R20, R22; log entry 1). -/

namespace Sys2Proof.Machine

/-- One step (20 R58): the next command is taken, decoded and executed, an illegal word answered (30 R82); with no command presented the block waits (70 R202). -/
def step (s : State) : Host.Outcome State Fault Refusal :=
  match s.hostCmds with
  | [] => .next s
  | w :: _ =>
    match decode w with
    | .command i => exec i s.takeCommand
    | .illegal _ => illegalWord s.takeCommand

/-- The state in which the host presents that word next: the block fetches nothing (10 R22), so what a program in memory is elsewhere is here the host's list of commands (log entry 1). -/
def State.withFetchWord (s : State) (nbits w : Nat) : State :=
  { s with hostCmds := tableWord nbits w :: s.hostCmds }

end Sys2Proof.Machine
end

