-- ==== Sys2Proof/Machine/Assembler.lean ====
section
/-! DEFINITION. The command syntax of 30 R85 and R86: one line of text to one command. Notation only: nothing in the machine depends on it (92 D19). The points the spec leaves open are in log entry 13. -/

namespace Sys2Proof.Machine

/-! ### Names -/

/-- The input names of the Buttons (30 R86). -/
def buttonNames : List (String × Button) :=
  [("MINUS", .minus), ("PLUS", .plus), ("L_CLK", .lClk), ("R_CLK", .rClk), ("HOME", .home), ("CAPTURE", .capture),
    ("SL", .sl), ("SR", .sr), ("Y", .y), ("B", .b), ("A", .a), ("X", .x), ("L", .lTrig), ("R", .rTrig), ("ZL", .zl), ("ZR", .zr)]

/-- The input names of the directions, always with the prefix (30 R86, 90 C1). -/
def dpadNames : List (String × DpadDirection) :=
  [("DPAD_CENTER", .center), ("DPAD_U", .up), ("DPAD_UR", .upRight), ("DPAD_R", .right), ("DPAD_DR", .downRight),
    ("DPAD_D", .down), ("DPAD_DL", .downLeft), ("DPAD_L", .left), ("DPAD_UL", .upLeft)]

/-- The register names (10 R36). -/
def regNames : List (String × Reg) :=
  [("BTN", .btn), ("DPAD", .dpad), ("LX", .lx), ("LY", .ly), ("RX", .rx), ("RY", .ry), ("VND", .vnd), ("CRC", .crc),
    ("STATUS", .status), ("ACK", .ack), ("FLEN", .flen), ("TLEN", .tlen)]
  ++ [("FRM[0]", .frm 0), ("FRM[1]", .frm 1), ("FRM[2]", .frm 2), ("FRM[3]", .frm 3), ("FRM[4]", .frm 4),
    ("FRM[5]", .frm 5), ("FRM[6]", .frm 6), ("FRM[7]", .frm 7), ("FRM[8]", .frm 8)]
  ++ [("D_BTN", .dBtn), ("D_DPAD", .dDpad), ("D_LX", .dLx), ("D_LY", .dLy), ("D_RX", .dRx), ("D_RY", .dRy), ("D_VND", .dVnd)]

/-- Names are case-insensitive and canonically upper-case (30 R85). -/
def canonical (token : List Char) : String := String.ofList (token.map Char.toUpper)

/-- The entry of a name table. -/
def lookupName {α : Type} (table : List (String × α)) (token : List Char) : Option α :=
  (table.find? fun e => e.1 == canonical token).map Prod.snd

/-! ### Numbers and characters -/

/-- The value of a digit character, of any base up to 16. -/
def digitValue (c : Char) : Option Nat :=
  if '0' ≤ c ∧ c ≤ '9' then some (c.toNat - '0'.toNat)
  else if 'A' ≤ c.toUpper ∧ c.toUpper ≤ 'F' then some (c.toUpper.toNat - 'A'.toNat + 10)
  else none

/-- Digits of a base, most significant first, continuing from a value. -/
def digitsFrom (base value : Nat) : List Char → Option Nat
  | [] => some value
  | c :: rest =>
    match digitValue c with
    | some d => if d < base then digitsFrom base (value * base + d) rest else none
    | none => none

/-- A number in the notation of 00 R9: 0x hexadecimal, 0b binary, no prefix decimal. -/
def parseNumber : List Char → Option Nat
  | [] => none
  | '0' :: 'x' :: d :: rest => digitsFrom 16 0 (d :: rest)
  | '0' :: 'b' :: d :: rest => digitsFrom 2 0 (d :: rest)
  | d :: rest => digitsFrom 10 0 (d :: rest)

/-- A number that fits in the operand byte. -/
def parseByte (token : List Char) : Option Byte :=
  match parseNumber token with
  | some n => if n < 256 then some (BitVec.ofNat 8 n) else none
  | none => none

/-- A `char` operand: a printable character in single quotes, or a number (30 R85). -/
def parseChar : List Char → Option Byte
  | ['\'', c, '\''] => if 0x20 ≤ c.toNat ∧ c.toNat ≤ 0x7E then some (BitVec.ofNat 8 c.toNat) else none
  | token => parseByte token

/-- A `li` operand: an input name or a number (30 R85, R86). A name that is neither a Button nor a direction is an error. -/
def parseInput (token : List Char) : Option LogicalInput :=
  match lookupName buttonNames token, lookupName dpadNames token with
  | some k, _ => some (.button k)
  | none, some d => some (.dpad d)
  | none, none => (parseByte token).map LogicalInput.ofCode

/-- A `reg` operand: a register name or a number (30 R85). -/
def parseReg (token : List Char) : Option RegSel :=
  match lookupName regNames token with
  | some r => some (.reg r)
  | none => (parseByte token).map RegSel.ofNumber

/-! ### Lines -/

/-- The line without its comment: `;` starts one, to the end of the line (30 R85). DESIGN CHOICE (log entry 13): a semicolon between single quotes starts none, on which 30 R85 says nothing. -/
def stripComment : List Char → List Char
  | [] => []
  | '\'' :: c :: '\'' :: rest => '\'' :: c :: '\'' :: stripComment rest
  | ';' :: _ => []
  | c :: rest => c :: stripComment rest

/-- White space between tokens. -/
def isBlank (c : Char) : Bool := c = ' ' ∨ c = '\t' ∨ c = '\r' ∨ c = '\n'

/-- Without white space at either end. -/
def trim (cs : List Char) : List Char := ((cs.dropWhile isBlank).reverse.dropWhile isBlank).reverse

/-- What a line assembles to. -/
inductive AsmLine where
  /-- no command on the line -/
  | blank
  | command (i : Instr)
  | error
  deriving DecidableEq, Repr

/-- A command of class `none`: any operand text is an error. -/
def asmNone (i : Instr) (operand : List Char) : AsmLine := if operand = [] then .command i else .error

/-- A command with an operand, or an error where the operand does not parse. -/
def asmWith {α : Type} (mk : α → Instr) (v : Option α) : AsmLine :=
  match v with
  | some a => .command (mk a)
  | none => .error

/-- The mnemonics of 30 R72, each with the way its operand class is read (30 R71, R85). -/
def mnemonics : List (String × (List Char → AsmLine)) :=
  [("NOP", asmNone .nop), ("CLR", asmNone .clr), ("PUSH", fun t => asmWith .push (parseInput t)),
    ("SETLX", fun t => asmWith .setlx (parseByte t)), ("SETLY", fun t => asmWith .setly (parseByte t)),
    ("SETRX", fun t => asmWith .setrx (parseByte t)), ("SETRY", fun t => asmWith .setry (parseByte t)),
    ("SETVND", fun t => asmWith .setvnd (parseByte t)), ("EMIT", asmNone .emit)]
  ++ [("CRCINIT", asmNone .crcinit), ("CRCBYTE", fun t => asmWith .crcbyte (parseByte t)),
    ("DBEG", asmNone .dbeg), ("DBYTE", fun t => asmWith .dbyte (parseByte t)), ("DCHK", asmNone .dchk),
    ("TCLR", asmNone .tclr), ("TCHR", fun t => asmWith .tchr (parseChar t)), ("TSEND", asmNone .tsend),
    ("RD", fun t => asmWith .rd (parseReg t))]

/-- One line of the command syntax (30 R85). -/
def assembleLine (line : List Char) : AsmLine :=
  let text := trim (stripComment line)
  let head := text.takeWhile fun c => !isBlank c
  let operand := trim (text.dropWhile fun c => !isBlank c)
  if text = [] then .blank
  else
    match lookupName mnemonics head with
    | some read => read operand
    | none => .error

/-- The word of a line that holds a command (30 R88). -/
def assembleWord (line : String) : Option Word :=
  match assembleLine line.toList with
  | .command i => some (encode i)
  | .blank => none
  | .error => none

end Sys2Proof.Machine
end

