-- ==== Sys2Proof/Machine/Host.lean ====
section
/-! DEFINITION. The host's side of the command port: the pseudo-instructions of 30 R87 and when the host stops (92 D19, D21), and the analog quantizer the spec leaves to the host (00 R8). None of it is the block's. -/

namespace Sys2Proof.Machine

/-- A host-side quantizer (00 R8): any map to the 8-bit axis value that sends the neutral position to 128. The only law is the spec's (92 D16). -/
structure Quantizer (Position : Type) where
  neutral : Position
  quantize : Position → Byte
  quantize_neutral : quantize neutral = Config.AXIS_NEUTRAL

/-- One thing the host does in a pseudo-instruction: a command, or a wait that is no command (30 R87). -/
inductive HostStep where
  | command (i : Instr)
  | wait (milliseconds : Nat)
  deriving DecidableEq, Repr

/-- The optional arguments of `ENCODE` (30 R87). -/
structure EncodeArgs where
  lx : Option Byte := none
  ly : Option Byte := none
  rx : Option Byte := none
  ry : Option Byte := none
  vnd : Option Byte := none
  deriving DecidableEq, Repr

/-- A setter for each argument that is given, in the order of 30 R87. -/
def EncodeArgs.commands (a : EncodeArgs) : List Instr :=
  (a.lx.map Instr.setlx).toList ++ (a.ly.map Instr.setly).toList ++ (a.rx.map Instr.setrx).toList
    ++ (a.ry.map Instr.setry).toList ++ (a.vnd.map Instr.setvnd).toList

/-- The values the arguments stand for: the default where none is given (41 R100). -/
def EncodeArgs.analog (a : EncodeArgs) : Analog where
  lx := a.lx.getD Config.AXIS_NEUTRAL
  ly := a.ly.getD Config.AXIS_NEUTRAL
  rx := a.rx.getD Config.AXIS_NEUTRAL
  ry := a.ry.getD Config.AXIS_NEUTRAL
  vendor := a.vnd.getD Config.VENDOR_DEFAULT

/-- The commands of one encode call up to its `EMIT` (41 R108, 30 R87). -/
def encodeSetup (inputs : List LogicalInput) (args : EncodeArgs) : List Instr :=
  .clr :: (inputs.map Instr.push ++ args.commands)

/-- The LogicalInput a command of an encode call supplies (41 R108): only `PUSH` supplies one. -/
def pushedInput : Instr → List LogicalInput
  | .push li => [li]
  | .nop | .clr | .setlx _ | .setly _ | .setrx _ | .setry _ | .setvnd _ | .emit | .crcinit | .crcbyte _
  | .dbeg | .dbyte _ | .dchk | .tclr | .tchr _ | .tsend | .rd _ => []

/-- The inputs the commands of an encode call supply, in their order (41 R108). -/
def callInputs (cmds : List Instr) : List LogicalInput := cmds.flatMap pushedInput

/-- The values of an encode call after one more of its commands (41 R108): each setter supplies one argument. -/
def Analog.supply (v : Analog) : Instr → Analog
  | .setlx x => { v with lx := x }
  | .setly x => { v with ly := x }
  | .setrx x => { v with rx := x }
  | .setry x => { v with ry := x }
  | .setvnd x => { v with vendor := x }
  | .nop | .clr | .push _ | .emit | .crcinit | .crcbyte _ | .dbeg | .dbyte _ | .dchk | .tclr | .tchr _ | .tsend | .rd _ => v

/-- The values the commands of an encode call supply, the last of each kind, from the defaults (41 R108). -/
def callAnalog (cmds : List Instr) : Analog := cmds.foldl Analog.supply {}

/-- The pseudo-instructions (30 R87). -/
inductive Pseudo where
  | encode (inputs : List LogicalInput) (args : EncodeArgs)
  | release
  | press (inputs : List LogicalInput) (holdMilliseconds : Nat)
  | crc8 (bytes : List Byte)
  | decode (f : Frame)
  | display (text : List Byte)
  deriving DecidableEq, Repr

/-- The expansion of a pseudo-instruction (30 R87). -/
def Pseudo.expand : Pseudo → List HostStep
  | .encode inputs args => (encodeSetup inputs args ++ [Instr.emit]).map HostStep.command
  | .release => [.command .clr, .command .emit]
  | .press inputs hold =>
    (encodeSetup inputs {} ++ [Instr.emit]).map HostStep.command ++ [.wait hold, .command .clr, .command .emit]
  | .crc8 bytes => (Instr.crcinit :: (bytes.map Instr.crcbyte ++ [.rd (.reg .crc)])).map HostStep.command
  | .decode f => (Instr.dbeg :: (f.bytes.map Instr.dbyte ++ [.dchk])).map HostStep.command
  | .display text => (Instr.tclr :: (text.map Instr.tchr ++ [.tsend])).map HostStep.command

/-- Whether the host stops at the first response that is not `OK`: it does not in `DISPLAY`, where `TSEND` reports the error (30 R87). -/
def Pseudo.stopsAtError : Pseudo → Bool
  | .display _ => false
  | .encode _ _ | .release | .press _ _ | .crc8 _ | .decode _ => true

/-- The last response was `OK` (or there is none yet). -/
def State.lastOk (s : State) : Bool :=
  match s.responses.getLast? with
  | some r => r.code == .ok
  | none => true

/-- Run commands in order, whatever they respond. -/
def runCommands : List Instr → State → Host.Outcome State Fault Refusal
  | [], s => .next s
  | i :: rest, s =>
    match exec i s with
    | .next t => runCommands rest t
    | .fault r => .fault r
    | .refused r => .refused r

/-- Run a host's script; when `stop` is true the host issues nothing after a response that is not `OK` (30 R87). A wait changes nothing: the model has no time (70 R213). -/
def runScript (stop : Bool) : List HostStep → State → Host.Outcome State Fault Refusal
  | [], s => .next s
  | .wait _ :: rest, s => runScript stop rest s
  | .command i :: rest, s =>
    match exec i s with
    | .next t => if stop && !t.lastOk then .next t else runScript stop rest t
    | .fault r => .fault r
    | .refused r => .refused r

/-- Run a pseudo-instruction as the host does (30 R87). -/
def Pseudo.run (p : Pseudo) (s : State) : Host.Outcome State Fault Refusal :=
  runScript p.stopsAtError p.expand s

end Sys2Proof.Machine
end

