-- ==== Sys2Proof/Machine/Link.lean ====
section
/-! DEFINITION. The link context: the host's handshake and session on the same channel (45 R160 to R174). Nothing here is done or checked by the block (00 R5, 92 D15); it is the contract of its environment. The choices the spec leaves to a host model are in log entry 11. -/

namespace Sys2Proof.Machine

/-- LinkState, held by the host (45 R160). -/
inductive LinkState where
  | unestablished | handshaking | ready | closed | failed
  deriving DecidableEq, Repr

/-- The edges of the lifecycle (45 R160, 90 C4). -/
def LinkState.edge : LinkState → LinkState → Bool
  | .unestablished, .handshaking => true
  | .handshaking, .ready => true
  | .handshaking, .unestablished => true
  | .handshaking, .failed => true
  | .ready, .closed => true
  | _, _ => false

/-- The two handshake variants (45 R163). -/
inductive HandshakeVariant where
  | chocolate | vanilla
  deriving DecidableEq, Repr

/-- What a handshake step accepts as its answer: one given byte, or any one byte (45 R164, R165). -/
inductive Expect where
  | exactly (b : Byte)
  | anyByte
  deriving DecidableEq, Repr

/-- An answer that matches; no byte within the timeout never does (45 R164, R165). -/
def Expect.accepts : Expect → Option Byte → Bool
  | .exactly b, some r => r == b
  | .anyByte, some _ => true
  | _, none => false

/-- A handshake step: the byte written and the answer expected (45 R162). -/
structure HandshakeStep where
  write : Byte
  expect : Expect
  deriving DecidableEq, Repr

/-- The three steps of each variant (45 R164, R165). -/
def HandshakeVariant.steps : HandshakeVariant → List HandshakeStep
  | .vanilla => [⟨0xFF#8, .exactly 0xFF#8⟩, ⟨0x33#8, .exactly 0xCC#8⟩, ⟨0xCC#8, .exactly 0x33#8⟩]
  | .chocolate => [⟨0xFF#8, .exactly 0xFF#8⟩, ⟨0x44#8, .exactly 0xEE#8⟩, ⟨0xEE#8, .anyByte⟩]

/-- The host's actions on the channel and its waits (45 R162). -/
inductive HostAction where
  | bufferClear
  | wait (milliseconds : Nat)
  | write (b : Byte)
  | read (answer : Option Byte)
  deriving DecidableEq, Repr

/-- HandshakeMismatch (45 R166): the step, counted from 1, and the byte received or none. -/
structure HandshakeMismatch where
  step : Nat
  received : Option Byte
  deriving DecidableEq, Repr

/-- The bridge's answers to the three reads of an attempt. -/
structure Answers where
  first : Option Byte
  second : Option Byte
  third : Option Byte
  deriving DecidableEq, Repr

/-- The answers in the order they are read. -/
def Answers.list (a : Answers) : List (Option Byte) := [a.first, a.second, a.third]

/-- Run steps against answers, the first of them numbered `k`: the first that fails ends the attempt (45 R162). The result is what the host did and the mismatch, if any. -/
def runSteps (k : Nat) : List HandshakeStep → List (Option Byte) → List HostAction × Option HandshakeMismatch
  | st :: rest, a :: answers =>
    let done := [.write st.write, .wait Config.HANDSHAKE_STEP_MS, .read a]
    if st.expect.accepts a then
      let r := runSteps (k + 1) rest answers
      (done ++ r.1, r.2)
    else (done, some ⟨k, a⟩)
  | _, _ => ([], none)

/-- One attempt (45 R162): clear the channel's buffers, settle, then the steps of the variant. -/
def attempt (v : HandshakeVariant) (a : Answers) : List HostAction × Option HandshakeMismatch :=
  let r := runSteps 1 v.steps a.list
  ([.bufferClear, .wait Config.SETTLE_AFTER_CLEAR_MS] ++ r.1, r.2)

/-- What the host holds of the link (45 R160, R165, R169). -/
structure Session where
  link : LinkState
  /-- the variant of the attempt under way -/
  variant : Option HandshakeVariant
  /-- failed attempts so far -/
  failures : Nat
  /-- each failure, logged (45 R169) -/
  diagnostics : List HandshakeMismatch
  /-- the byte the third Chocolate read gave, not validated further (45 R165) -/
  controllerType : Option Byte
  /-- everything the host did on the channel itself, oldest first -/
  actions : List HostAction
  deriving DecidableEq, Repr

/-- A new session: nothing of an earlier one persists (45 R171). -/
def Session.fresh : Session := ⟨.unestablished, none, 0, [], none, []⟩

/-- The events of a session (45 R160). -/
inductive LinkEvent where
  /-- an attempt of a variant starts -/
  | start (v : HandshakeVariant)
  /-- the attempt under way runs against these answers -/
  | finish (a : Answers)
  /-- the session is closed -/
  | close
  deriving DecidableEq, Repr

/-- Whether the policy allows no further attempt after `failures` failed ones; `none` is no bound (45 R169, 93 U13). DESIGN CHOICE (log entry 11): the bound is asked for only when an attempt has failed, so bounds 0 and 1 both allow the one attempt. -/
def exhausted (maxAttempts : Option Nat) (failures : Nat) : Bool :=
  match maxAttempts with
  | some n => n ≤ failures
  | none => false

/-- The end of an attempt that succeeded: the settle delay, then Ready (45 R170). -/
def Session.succeed (s : Session) (v : HandshakeVariant) (a : Answers) (acts : List HostAction) : Session :=
  { s with
    link := .ready
    variant := none
    controllerType := if v = .chocolate then a.third else none
    actions := s.actions ++ acts ++ [.wait Config.READY_SETTLE_MS] }

/-- The end of an attempt that failed: logged, then another attempt after the sleep, or Failed when the policy is exhausted (45 R160, R169). -/
def Session.fail (s : Session) (maxAttempts : Option Nat) (m : HandshakeMismatch) (acts : List HostAction) : Session :=
  { s with
    link := if exhausted maxAttempts (s.failures + 1) then .failed else .unestablished
    variant := none
    failures := s.failures + 1
    diagnostics := s.diagnostics ++ [m]
    actions := s.actions ++ acts ++
      (if exhausted maxAttempts (s.failures + 1) then [] else [.wait Config.RETRY_SLEEP_MS]) }

/-- One event of the session; `none` where the link state does not allow it (45 R160). DESIGN CHOICE (log entry 11): `start` does not ask for the bound, so with HS_MAX_ATTEMPTS 0, to which 45 R169 gives no meaning, one attempt still runs, reaches Ready if it succeeds and Failed if it fails. -/
def Session.step (maxAttempts : Option Nat) (e : LinkEvent) (s : Session) : Option Session :=
  match e, s.link, s.variant with
  | .start v, .unestablished, _ => some { s with link := .handshaking, variant := some v }
  | .finish a, .handshaking, some v =>
    let r := attempt v a
    match r.2 with
    | none => some (s.succeed v a r.1)
    | some m => some (s.fail maxAttempts m r.1)
  | .close, .ready, _ => some { s with link := .closed }
  | _, _, _ => none

/-- The source's start-up (45 R169): Vanilla attempts, one after another, against the answers of each, until one succeeds or the policy is exhausted. -/
def Session.startUp (maxAttempts : Option Nat) : List Answers → Session → Session
  | [], s => s
  | a :: rest, s =>
    match (s.step maxAttempts (.start .vanilla)).bind (Session.step maxAttempts (.finish a)) with
    | some t => Session.startUp maxAttempts rest t
    | none => s

end Sys2Proof.Machine
end

