-- ==== Sys2Proof/Machine/System.lean ====
section
/-! DEFINITION. The whole system: the block and the host's session side by side, with reset as an event between commands (70 R201, 45 R172). The block never sees the link state (70 R203). -/

namespace Sys2Proof.Machine

/-- The block, and what the host holds of the link. -/
structure System where
  codec : State
  session : Session
  deriving DecidableEq, Repr

/-- What can happen in the system. -/
inductive SystemEvent where
  /-- the block is reset (70 R201) -/
  | reset
  /-- the host's session goes on (45 R160) -/
  | link (e : LinkEvent)
  /-- the host presents a command word to the block (20 R58) -/
  | command (w : Word)
  deriving DecidableEq, Repr

/-- The block with one command presented, executed. -/
def State.runWord (s : State) (w : Word) : Option State :=
  match step (s.present (w :: s.hostCmds)) with
  | .next t => some t
  | .fault _ => none
  | .refused _ => none

/-- One event of the system. A command executes whatever the link state is; a reset changes neither the channel nor the link (70 R201, R203). -/
def System.step (maxAttempts : Option Nat) (e : SystemEvent) (y : System) : Option System :=
  match e with
  | .reset => some { y with codec := y.codec.resetEvent }
  | .link l => (y.session.step maxAttempts l).map fun t => { y with session := t }
  | .command w => (y.codec.runWord w).map fun t => { y with codec := t }

end Sys2Proof.Machine
end

