-- ==== Sys2Proof/Safety.lean ====
section
/-! DEFINITION. What claims are stated in: the invariant of the block's state, what a well-formed frame on the channel is, a run in which every response was OK (60 R196), and a host that keeps to the link context (70 R203). -/

namespace Sys2Proof.Machine

/-- A 7-bit ASCII byte (43 R137). -/
def asciiByte (c : Byte) : Bool := decide (c.toNat < 0x80)

/-- Nine bytes that are a checksum-valid InputPacket with a legal dpad code (30 R74, R77). -/
def inputPacket (f : List Byte) : Bool :=
  match f with
  | [b0, b1, b2, b3, b4, b5, b6, b7, b8] => b8 == crc8 [b0, b1, b2, b3, b4, b5, b6, b7] && legalDpadCode b2
  | _ => false

/-- The sentinel followed by 1 to `capacity` bytes of 7-bit ASCII (30 R79). -/
def displayFrame (capacity : Nat) (f : List Byte) : Bool :=
  f.take Config.SENTINEL_LEN == Config.SENTINEL && decide (Config.SENTINEL_LEN < f.length)
    && decide (f.length ≤ Config.SENTINEL_LEN + capacity) && f.all asciiByte

/-- A frame the block may transmit (20 R52). -/
def goodFrame (capacity : Nat) (f : List Byte) : Bool := inputPacket f || displayFrame capacity f

/-- The values the decode registers hold, as one record (10 R30). -/
def State.decodedFields (s : State) : PacketFields := ⟨s.dBtn, s.dDpad, s.dLx, s.dLy, s.dRx, s.dRy, s.dVnd⟩

/-- What holds of the block's state at reset and after every command: the legal values of the registers, and what each flag says (10 R24, R29, R31 to R33, R35). -/
structure State.Inv (s : State) : Prop where
  /-- 10 R24 -/
  dpad_legal : s.dpad.toNat < Config.N_DPAD
  /-- 10 R30: a recovered code, or CENTER -/
  dDpad_legal : s.dDpad.toNat < Config.N_DPAD
  /-- 10 R29 -/
  flen_legal : s.flen.toNat ≤ Config.FRAME_LEN
  /-- 00 R8, 10 R32 -/
  textMax_legal : 1 ≤ s.textMax ∧ s.textMax ≤ 65535
  /-- 10 R32 -/
  tlen_legal : s.tlen.toNat ≤ s.textMax
  /-- 10 R31: bit 7 always 0 -/
  tbuf_ascii : s.tbuf.all asciiByte = true
  /-- 10 R33: `DVALID` says the decode registers hold the fields of the frame now in `FRM` -/
  dvalid_means : s.flag .dvalid = true → s.flen = fullCount ∧ decodePacket s.frm = .fields s.decodedFields
  /-- 10 R33: `CRCERR` says the frame was found corrupt -/
  crcerr_means : s.flag .crcerr = true → s.flen = fullCount ∧ decodePacket s.frm = .corrupt
  /-- 10 R33: `DPERR` says the checksum matched and no direction has the dpad code -/
  dperr_means : s.flag .dperr = true → s.flen = fullCount ∧ decodePacket s.frm = .badDpadCode
  /-- 10 R33: `ACKM` says a byte other than 0x90 came -/
  ackm_means : s.flag .ackm = true ↔ s.flag .ackv = true ∧ s.ack ≠ Config.ACK_EXPECTED
  /-- 10 R35: no byte reads as 0x00 -/
  ack_none : s.flag .ackv = false → s.ack = 0x00#8

/-- Every frame on the channel is a whole, well-formed frame (20 R52, R63). -/
def State.SentWellFormed (s : State) : Prop := ∀ f ∈ s.tx, goodFrame s.textMax f = true

/-- Every response so far was `OK` (60 R196). -/
def State.allOk (s : State) : Bool := s.responses.all fun r => r.code == .ok

/-- The registers of the block alone: what reset gives a value (10 R39), without what the model records and what it is fed. -/
def State.registersOf (s : State) : State :=
  { s with channel := [], responses := [], hostCmds := [], rxTape := [], rxDraws := 0 }

/-- The word and the command stand for each other (30 R72, R88). -/
def EncodedAs (w : Word) (i : Instr) : Prop := decode w = .command i ∧ encode i = w

/-- An operand-less opcode with a non-zero operand byte: the step only takes the word and answers `ILLEGAL_COMMAND` (30 R82). -/
def OperandRefused (op : Byte) : Prop :=
  ∀ (arg : Byte) (s : State) (rest : List Word), arg ≠ 0x00#8 → s.hostCmds = (op ++ arg) :: rest →
    step s = .next { s with hostCmds := rest, responses := s.responses ++ [⟨.illegalCommand, 0x0000#16⟩] }

/-- The link is Ready: the premise a claim about what the bridge receives needs (70 R203). -/
def System.linkReady (y : System) : Prop := y.session.link = .ready

/-- A host that keeps to the contract: it issues `EMIT` and `TSEND` only while the link is Ready (45 R170, R171). -/
def System.permits (y : System) : SystemEvent → Prop
  | .command w => decode w = Decoded.command Instr.emit ∨ decode w = Decoded.command Instr.tsend → y.linkReady
  | .reset | .link _ => True

end Sys2Proof.Machine
end

