-- ==== Sys2Proof/Certificates/Slice0/Obligations.lean ====
section
/-! DEFINITION. The statements for the provers, grouped as the spec's files are. Each docstring names the rule it formalises. A next state is written as an update of the state before, so an equation also says what the command leaves alone. -/

open Sys2Proof Sys2Proof.Machine

/-- 00 R7: the constants of the wire under the spec's names, with the spec's values, and the four counts are those of the model's frame, Buttons and directions. -/
def Obligations.WireConstants : Prop :=
  Config.FRAME_LEN = 9 ∧ Config.PAYLOAD_LEN = 8 ∧ Config.CRC_POLY = 0x07#8 ∧ Config.CRC_INIT = 0x00#8 ∧
  Config.DPAD_CENTER.toNat = 0x08 ∧ Config.AXIS_NEUTRAL.toNat = 128 ∧ Config.VENDOR_DEFAULT = 0x00#8 ∧
  Config.ACK_EXPECTED = 0x90#8 ∧
  Config.SENTINEL = [0x31#8, 0x32#8, 0x33#8, 0x34#8, 0x35#8, 0x36#8, 0x37#8, 0x38#8, 0x39#8] ∧
  Config.SENTINEL_LEN = Config.SENTINEL.length ∧ Config.TEXT_FILL = 0x20#8 ∧ Config.N_BUTTONS = 16 ∧ Config.N_DPAD = 9 ∧
  (∀ f : Frame, f.bytes.length = Config.FRAME_LEN ∧ f.payload.length = Config.PAYLOAD_LEN) ∧
  Button.all.length = Config.N_BUTTONS ∧ DpadDirection.all.length = Config.N_DPAD

/-! ### Command words (30) -/

/-- 30 R70 to R72, R78, 10 R36: the word of every well-formed command decodes to it, with every operand value. -/
def Obligations.DecodeOfEncode : Prop :=
  ∀ i : Instr, i.wf = true → decode (encode i) = .command i

/-- 30 R72, R82: the decoder reads no word as a command whose own word is another one. -/
def Obligations.EncodeOfDecode : Prop :=
  ∀ (w : Word) (i : Instr), decode w = .command i → i.wf = true ∧ encode i = w

/-- 30 R88: the eight words the rule writes out, and the two fields of every command's word. -/
def Obligations.CommandWords : Prop :=
  (∀ i : Instr, (encode i).extractLsb' 8 8 = i.opcode ∧ (encode i).extractLsb' 0 8 = i.operand) ∧
  EncodedAs 0x0100#16 .clr ∧ EncodedAs 0x020A#16 (.push (.button .a)) ∧ EncodedAs 0x0212#16 (.push (.dpad .right)) ∧
  EncodedAs 0x03FF#16 (.setlx 0xFF#8) ∧ EncodedAs 0x0800#16 .emit ∧ EncodedAs 0x1101#16 (.crcbyte 0x01#8) ∧
  EncodedAs 0x3168#16 (.tchr 0x68#8) ∧ EncodedAs 0x4008#16 (.rd (.reg .status))

/-- 30 R82: exactly the unassigned opcodes and the operand-less commands with an operand are illegal, an illegal word does nothing but answer, and only 0x0000 is the no-operation. -/
def Obligations.IllegalWords : Prop :=
  let withOperand : List Byte := [0x02#8, 0x03#8, 0x04#8, 0x05#8, 0x06#8, 0x07#8, 0x11#8, 0x21#8, 0x31#8, 0x40#8]
  let noOperand : List Byte := [0x00#8, 0x01#8, 0x08#8, 0x10#8, 0x20#8, 0x22#8, 0x30#8, 0x32#8]
  (∀ op arg : Byte, (∃ i, decode (op ++ arg) = .command i) ↔ op ∈ withOperand ∨ (op ∈ noOperand ∧ arg = 0x00#8)) ∧
  (∀ (s : State) (w : Word) (rest : List Word) (why : DecodeError), s.hostCmds = w :: rest → decode w = .illegal why →
    step s = .next { s with hostCmds := rest, responses := s.responses ++ [⟨.illegalCommand, 0x0000#16⟩] }) ∧
  ∀ w : Word, decode w = .command .nop ↔ w = 0x0000#16

/-! ### The step (20, 30 R73, 60) -/

/-- 20 R58, 10 R22: the step takes the command the host presents and executes it; the model adds only that the word leaves the host's list (log entry 1). -/
def Obligations.StepRunsDecodedCommand : Prop :=
  ∀ (s : State) (w : Word) (rest : List Word) (i : Instr), s.hostCmds = w :: rest → decode w = .command i →
    step s = exec i { s with hostCmds := rest }

/-- 70 R202, 60 R194: with no command presented the block waits, and nothing changes. That waiting is a step is the model's choice (log entry 1). -/
def Obligations.StepWaitsForCommand : Prop :=
  ∀ s : State, s.hostCmds = [] → step s = .next s

/-- 30 R73: every word presented gets exactly one response; its data is the register's value for a successful RD and 0x0000 otherwise; a response is the word of its code and its data. -/
def Obligations.OneResponsePerCommand : Prop :=
  (∀ (s : State) (w : Word) (rest : List Word), s.hostCmds = w :: rest →
    ∃ t r, step s = .next t ∧ t.hostCmds = rest ∧ t.responses = s.responses ++ [r] ∧
      ((∃ x, decode w = .command (.rd (.reg x)) ∧ r = ⟨.ok, s.readReg x⟩) ∨
        ((∀ x, decode w ≠ .command (.rd (.reg x))) ∧ r.data = 0x0000#16))) ∧
  ∀ r : Response, r.word.extractLsb' 16 8 = r.code.number ∧ r.word.extractLsb' 0 16 = r.data ∧
    (r.code.number = 0x00#8 ↔ r.code = .ok)

/-- 60 R196, 92 D24: every command answers a next state, in every state. -/
def Obligations.ExecTotal : Prop :=
  ∀ (i : Instr) (s : State), ∃ t, exec i s = .next t

/-- 60 R180: the numbers of the response codes; 0x03 and 0x0A to 0xFF are no code's. -/
def Obligations.ResponseCodeNumbers : Prop :=
  RespCode.number .ok = 0x00#8 ∧ RespCode.number .illegalCommand = 0x01#8 ∧ RespCode.number .unknownInput = 0x02#8 ∧
  RespCode.number .checksumError = 0x04#8 ∧ RespCode.number .badDpadCode = 0x05#8 ∧ RespCode.number .frameLength = 0x06#8 ∧
  RespCode.number .nonAscii = 0x07#8 ∧ RespCode.number .textOverflow = 0x08#8 ∧ RespCode.number .badRegister = 0x09#8 ∧
  ∀ c : RespCode, c.number ≠ 0x03#8 ∧ c.number.toNat < 0x0A

/-- 30 R87, 20 R58: presenting the words of well-formed commands one after another is running those commands in that order, whatever the host presents after them. -/
def Obligations.PresentedWordsRunInOrder : Prop :=
  ∀ (cmds : List Instr) (s t : State) (later : List Word), (∀ i ∈ cmds, i.wf = true) →
    runCommands cmds (s.present later) = .next t →
    core.run cmds.length (s.present (cmds.map encode ++ later)) = .next t

/-! ### The Checksum Engine (40) -/

/-- 40 R90: the algorithm in plain arithmetic: eight iterations on the accumulator XORed with the byte, bytes in order, start 0x00, no final XOR. -/
def Obligations.ChecksumAlgorithm : Prop :=
  (∀ acc : Byte, (crcIter acc).toNat =
    if 128 ≤ acc.toNat then ((acc.toNat * 2) ^^^ 0x07) % 256 else (acc.toNat * 2) % 256) ∧
  (∀ acc b : Byte, crcStep acc b = crcIter^[8] (acc ^^^ b)) ∧
  crc8 [] = 0x00#8 ∧ ∀ (bytes : List Byte) (b : Byte), crc8 (bytes ++ [b]) = crcStep (crc8 bytes) b

/-- 40 R90, R94: crc8 is the remainder of the message times x^8 by x^8+x^2+x+1 over the two-element field: for some quotient, given by its bits, quotient times 0x107 without carries is the message followed by its checksum. -/
def Obligations.ChecksumIsPolynomialRemainder : Prop :=
  ∀ bytes : List Byte, ∃ quotient : List Bool,
    quotient.foldl (fun acc q => (2 * acc) ^^^ (if q then 0x107 else 0)) 0
      = (bytes.foldl (fun n b => n * 256 + b.toNat) 0 * 256) ^^^ (crc8 bytes).toNat

/-- 40 R93 (a), (b): zero bytes leave 0, and a step is linear over XOR. -/
def Obligations.ChecksumLinear : Prop :=
  (∀ n : Nat, crc8 (List.replicate n 0x00#8) = 0x00#8) ∧
  (∀ a b c d : Byte, crcStep (a ^^^ c) (b ^^^ d) = crcStep a b ^^^ crcStep c d) ∧
  ∀ a b : Byte, crcStep a b = crcStep (a ^^^ b) 0x00#8

/-- 40 R93 (c): a sequence followed by its own checksum has checksum 0x00, and a frame is checksum-valid exactly when all nine of its bytes have. -/
def Obligations.ChecksumResidue : Prop :=
  (∀ acc : Byte, crcStep acc acc = 0x00#8) ∧
  (∀ bytes : List Byte, crc8 (bytes ++ [crc8 bytes]) = 0x00#8) ∧
  ∀ f : Frame, f.check = crc8 f.payload ↔ crc8 f.bytes = 0x00#8

/-- 40 R93 (d): for a fixed byte the step is a bijection on accumulators, and sequences that differ in exactly one byte have different checksums. -/
def Obligations.ChecksumCatchesOneByte : Prop :=
  (∀ b : Byte, Function.Bijective fun acc => crcStep acc b) ∧
  ∀ (before after : List Byte) (x y : Byte), x ≠ y → crc8 (before ++ x :: after) ≠ crc8 (before ++ y :: after)

/-- 40 R93 (e): the engine can be fed in pieces. -/
def Obligations.ChecksumInPieces : Prop :=
  ∀ s t : List Byte, crc8 (s ++ t) = t.foldl crcStep (crc8 s)

/-- 40 R95. -/
def Obligations.CrcinitClears : Prop :=
  EncodedAs 0x1000#16 .crcinit ∧ OperandRefused 0x10#8 ∧
  ∀ s : State, exec .crcinit s = .next { s with crc := 0x00#8, responses := s.responses ++ [⟨.ok, 0x0000#16⟩] }

/-- 40 R96: the accumulator continues from what it holds, with the step of R90. -/
def Obligations.CrcbyteFolds : Prop :=
  ∀ b : Byte, EncodedAs (0x11#8 ++ b) (.crcbyte b) ∧
    ∀ s : State, exec (.crcbyte b) s =
      .next { s with crc := crcIter^[8] (s.crc ^^^ b), responses := s.responses ++ [⟨.ok, 0x0000#16⟩] }

/-- 30 R87 (CRC8), 92 D18: the pseudo-instruction ends with the checksum of its bytes as the data of its last response, and has used no channel. -/
def Obligations.CrcCallComputesChecksum : Prop :=
  ∀ (bytes : List Byte) (s : State), ∃ t, Pseudo.run (.crc8 bytes) s = .next t ∧ t.crc = crc8 bytes ∧
    t.responses.getLast? = some ⟨.ok, (crc8 bytes).setWidth 16⟩ ∧ t.channel = s.channel

/-! ### The Packet Codec, encode side (41) -/

/-- 41 R110. -/
def Obligations.ClrStartsEncodeCall : Prop :=
  EncodedAs 0x0100#16 .clr ∧ OperandRefused 0x01#8 ∧
  ∀ s : State, ∃ t, exec .clr s = .next t ∧
    t = { s with
      btn := 0x0000#16, dpad := 0x8#4, lx := 0x80#8, ly := 0x80#8, rx := 0x80#8, ry := 0x80#8, vnd := 0x00#8
      status := t.status, responses := s.responses ++ [⟨.ok, 0x0000#16⟩] } ∧
    t.flag .unk = false ∧ ∀ f : Flag, f ≠ .unk → t.flag f = s.flag f

/-- 41 R111: by the code's range: a Button's bit is ORed in, a direction's code replaces the old one, any other code sets UNK and changes neither. -/
def Obligations.PushAddsInput : Prop :=
  ∀ li : Byte, EncodedAs (0x02#8 ++ li) (.push (LogicalInput.ofCode li)) ∧
    ∀ s : State,
      (li.toNat ≤ 0x0F → exec (.push (LogicalInput.ofCode li)) s =
        .next { s with btn := s.btn ||| (0x0001#16 <<< li.toNat), responses := s.responses ++ [⟨.ok, 0x0000#16⟩] }) ∧
      (0x0F < li.toNat → li.toNat ≤ 0x18 → exec (.push (LogicalInput.ofCode li)) s =
        .next { s with dpad := (li - 0x10#8).extractLsb' 0 4, responses := s.responses ++ [⟨.ok, 0x0000#16⟩] }) ∧
      (0x18 < li.toNat → ∃ t, exec (.push (LogicalInput.ofCode li)) s = .next t ∧
        t = { s with status := t.status, responses := s.responses ++ [⟨.unknownInput, 0x0000#16⟩] } ∧
        t.flag .unk = true ∧ ∀ f : Flag, f ≠ .unk → t.flag f = s.flag f)

/-- 41 R113 to R117: each setter writes its own register with its operand and nothing else. -/
def Obligations.SettersWriteOneRegister : Prop :=
  ∀ v : Byte,
    EncodedAs (0x03#8 ++ v) (.setlx v) ∧ EncodedAs (0x04#8 ++ v) (.setly v) ∧ EncodedAs (0x05#8 ++ v) (.setrx v) ∧
    EncodedAs (0x06#8 ++ v) (.setry v) ∧ EncodedAs (0x07#8 ++ v) (.setvnd v) ∧
    ∀ s : State,
      exec (.setlx v) s = .next { s with lx := v, responses := s.responses ++ [⟨.ok, 0x0000#16⟩] } ∧
      exec (.setly v) s = .next { s with ly := v, responses := s.responses ++ [⟨.ok, 0x0000#16⟩] } ∧
      exec (.setrx v) s = .next { s with rx := v, responses := s.responses ++ [⟨.ok, 0x0000#16⟩] } ∧
      exec (.setry v) s = .next { s with ry := v, responses := s.responses ++ [⟨.ok, 0x0000#16⟩] } ∧
      exec (.setvnd v) s = .next { s with vnd := v, responses := s.responses ++ [⟨.ok, 0x0000#16⟩] }

/-- 41 R112: a call that is not poisoned is assembled, stored, acknowledged and transmitted, in that order on the channel; a poisoned one is refused and touches nothing. The answer of the ack read is whatever `State.rxAnswer` gives (20 R53). -/
def Obligations.EmitSendsPacket : Prop :=
  EncodedAs 0x0800#16 .emit ∧ OperandRefused 0x08#8 ∧
  ∀ s : State,
    (s.flag .unk = true →
      exec .emit s = .next { s with responses := s.responses ++ [⟨.unknownInput, 0x0000#16⟩] }) ∧
    (s.flag .unk = false →
      let p : List Byte :=
        [s.btn.extractLsb' 0 8, s.btn.extractLsb' 8 8, s.dpad.setWidth 8, s.lx, s.ly, s.rx, s.ry, s.vnd]
      let c := crc8 p
      let a := s.rxAnswer
      ∃ t, exec .emit s = .next t ∧
        t = { s with
          frm := ⟨s.btn.extractLsb' 0 8, s.btn.extractLsb' 8 8, s.dpad.setWidth 8, s.lx, s.ly, s.rx, s.ry, s.vnd, c⟩
          flen := 9#4, crc := c, ack := a.getD 0x00#8, status := t.status
          channel := s.channel ++ [.read a, .write (p ++ [c])]
          rxTape := s.rxTape.tail, rxDraws := s.rxDraws + 1
          responses := s.responses ++ [⟨.ok, 0x0000#16⟩] } ∧
        t.flag .unk = false ∧ t.flag .nasc = s.flag .nasc ∧ t.flag .tovf = s.flag .tovf ∧
        t.flag .dvalid = false ∧ t.flag .crcerr = false ∧ t.flag .dperr = false ∧
        (∀ b, a = some b → t.flag .ackv = true ∧ (t.flag .ackm = true ↔ b ≠ 0x90#8)) ∧
        (a = none → t.flag .ackv = false ∧ t.flag .ackm = false))

/-- 20 R53: a `RxTry()` gets the next answer the tape names and uses it up, and with no answer named it gets the free value; the tape is the model's own (log entry 2). -/
def Obligations.AckReadTakesNextAnswer : Prop :=
  ∀ s : State, s.flag .unk = false → ∃ t, exec .emit s = .next t ∧
    (∀ a rest, s.rxTape = a :: rest → t.rxTape = rest ∧ t.channel.take (s.channel.length + 1) = s.channel ++ [.read a]) ∧
    (s.rxTape = [] → t.rxTape = [] ∧
      t.channel.take (s.channel.length + 1) = s.channel ++ [.read (Config.rxDraw s.rxDraws)])

/-- 41 R105, R106: whatever the ack read answers, the same frame goes out once, the response is the same, and only ACK, ACKV and ACKM tell the answers apart. -/
def Obligations.AckNeverAltersTransmission : Prop :=
  ∀ (s : State) (tape : List (Option Byte)) (n : Nat), s.flag .unk = false →
    ∃ t u, exec .emit s = .next t ∧ exec .emit { s with rxTape := tape, rxDraws := n } = .next u ∧
      t.tx = u.tx ∧ (∃ f, t.tx = s.tx ++ [f]) ∧
      u = { t with ack := u.ack, status := u.status, channel := u.channel, rxTape := u.rxTape, rxDraws := u.rxDraws } ∧
      ∀ f : Flag, f ≠ .ackv → f ≠ .ackm → u.flag f = t.flag f

/-- 41 R103: the nine bytes of the neutral frame. -/
def Obligations.NeutralFrame : Prop :=
  (encodePacket [] {}).map Frame.bytes
    = some [0x00#8, 0x00#8, 0x08#8, 0x80#8, 0x80#8, 0x80#8, 0x80#8, 0x00#8, 0x54#8]

/-- 41 R101, with the tables of 30 R76 and R77 written out: gathering fails exactly on an unknown input; else the mask has exactly the bits of the Buttons given, however often and in whatever order, and the last direction's code wins, CENTER's if there is none. -/
def Obligations.GatherButtonsAndLastDirection : Prop :=
  let bits : List (Button × Nat) :=
    [(.minus, 0), (.plus, 1), (.lClk, 2), (.rClk, 3), (.home, 4), (.capture, 5), (.sl, 6), (.sr, 7)]
    ++ [(.y, 8), (.b, 9), (.a, 10), (.x, 11), (.lTrig, 12), (.rTrig, 13), (.zl, 14), (.zr, 15)]
  let codes : List (DpadDirection × Nibble) :=
    [(.up, 0x0#4), (.upRight, 0x1#4), (.right, 0x2#4), (.downRight, 0x3#4), (.down, 0x4#4), (.downLeft, 0x5#4),
      (.left, 0x6#4), (.upLeft, 0x7#4), (.center, 0x8#4)]
  (∀ k : Button, ∃ n, (k, n) ∈ bits) ∧ (∀ d : DpadDirection, ∃ c, (d, c) ∈ codes) ∧
  ∀ inputs : List LogicalInput,
    (gather inputs = none ↔ ∃ c, LogicalInput.unknown c ∈ inputs) ∧
    ∀ mask code, gather inputs = some (mask, code) →
      (∀ k n, (k, n) ∈ bits → (mask.getLsbD n = true ↔ LogicalInput.button k ∈ inputs)) ∧
      ((∀ d, LogicalInput.dpad d ∉ inputs) → code = 0x8#4) ∧
      ∀ before d after, inputs = before ++ LogicalInput.dpad d :: after →
        (∀ e, LogicalInput.dpad e ∉ after) → (d, code) ∈ codes

/-- 41 R100 to R102, R108: the commands of one encode call carry out the source's encode operation: from every state, when the inputs are known, the call transmits exactly the frame encode gives, leaves it in FRM, and every response is OK. -/
def Obligations.EncodeCallRefinesEncode : Prop :=
  ∀ (inputs : List LogicalInput) (args : EncodeArgs) (s : State) (f : Frame),
    encodePacket inputs args.analog = some f →
    ∃ t, runCommands (encodeSetup inputs args ++ [.emit]) s = .next t ∧ t.tx = s.tx ++ [f.bytes] ∧ t.frm = f ∧
      t.responses = s.responses ++ List.replicate (encodeSetup inputs args ++ [Instr.emit]).length ⟨.ok, 0x0000#16⟩

/-- 41 R108: the setters and `PUSH`es of a call may come in any order, a later value of a setter replaces an earlier one, and commands of other families may stand between them: the call's `EMIT` sends the frame encode gives for the inputs in their order and the last values, or, when an input is unknown, nothing. -/
def Obligations.EncodeCallInAnyOrder : Prop :=
  ∀ (cmds : List Instr) (s : State), Instr.clr ∉ cmds → Instr.emit ∉ cmds →
    ∃ u, runCommands (.clr :: cmds) s = .next u ∧
      (∀ f, encodePacket (callInputs cmds) (callAnalog cmds) = some f →
        ∃ t, exec .emit u = .next t ∧ t.frm = f ∧ t.tx = u.tx ++ [f.bytes] ∧ t.responses = u.responses ++ [⟨.ok, 0x0000#16⟩]) ∧
      (encodePacket (callInputs cmds) (callAnalog cmds) = none →
        exec .emit u = .next { u with responses := u.responses ++ [⟨.unknownInput, 0x0000#16⟩] })

/-- 41 R101, 60 R181: an encode call with an unknown input makes no part of a frame: even a host that goes on to EMIT changes neither the channel nor FRM, and EMIT reports the error again. -/
def Obligations.UnknownInputSendsNothing : Prop :=
  ∀ (inputs : List LogicalInput) (args : EncodeArgs) (s : State),
    encodePacket inputs args.analog = none →
    ∃ t, runCommands (encodeSetup inputs args ++ [.emit]) s = .next t ∧ t.channel = s.channel ∧ t.frm = s.frm ∧
      t.flen = s.flen ∧ t.crc = s.crc ∧ t.flag .unk = true ∧
      t.responses.getLast? = some ⟨.unknownInput, 0x0000#16⟩

/-- 41 R107, 30 R87 (PRESS): a press sends the packet with its inputs and then the neutral packet, or, when an input is unknown, neither. -/
def Obligations.PressIsAPair : Prop :=
  ∀ (inputs : List LogicalInput) (hold : Nat) (s : State),
    ∃ t, Pseudo.run (.press inputs hold) s = .next t ∧
      (∀ f, encodePacket inputs {} = some f →
        ∃ neutral, encodePacket [] {} = some neutral ∧ t.tx = s.tx ++ [f.bytes, neutral.bytes]) ∧
      (encodePacket inputs {} = none → t.channel = s.channel)

/-! ### The Packet Codec, decode side (42) -/

/-- 42 R122. -/
def Obligations.DbegEmptiesFrame : Prop :=
  EncodedAs 0x2000#16 .dbeg ∧ OperandRefused 0x20#8 ∧
  ∀ s : State, ∃ t, exec .dbeg s = .next t ∧
    t = { s with flen := 0#4, status := t.status, responses := s.responses ++ [⟨.ok, 0x0000#16⟩] } ∧
    t.flag .dvalid = false ∧ t.flag .crcerr = false ∧ t.flag .dperr = false ∧
    ∀ f : Flag, f ≠ .dvalid → f ≠ .crcerr → f ≠ .dperr → t.flag f = s.flag f

/-- 42 R123: the byte goes to FRM[FLEN]; a tenth byte is dropped and changes nothing. FLEN is never above 9 (the invariant of `InvKept`). -/
def Obligations.DbyteStoresOrRefuses : Prop :=
  ∀ b : Byte, EncodedAs (0x21#8 ++ b) (.dbyte b) ∧
    ∀ s : State,
      (s.flen.toNat = 9 →
        exec (.dbyte b) s = .next { s with responses := s.responses ++ [⟨.frameLength, 0x0000#16⟩] }) ∧
      (s.flen.toNat < 9 → ∃ t, exec (.dbyte b) s = .next t ∧
        t = { s with frm := t.frm, flen := t.flen, status := t.status, responses := s.responses ++ [⟨.ok, 0x0000#16⟩] } ∧
        t.flen.toNat = s.flen.toNat + 1 ∧
        (∀ i : Fin 9, t.frm.get i = if i.val = s.flen.toNat then b else s.frm.get i) ∧
        t.flag .dvalid = false ∧ t.flag .crcerr = false ∧ t.flag .dperr = false ∧
        ∀ f : Flag, f ≠ .dvalid → f ≠ .crcerr → f ≠ .dperr → t.flag f = s.flag f)

/-- 42 R124: the three tests in their order, what each outcome writes, and that it writes nothing else. -/
def Obligations.DchkJudgesFrame : Prop :=
  EncodedAs 0x2200#16 .dchk ∧ OperandRefused 0x22#8 ∧
  ∀ s : State,
    let c := crc8 [s.frm.buttonsLsb, s.frm.buttonsMsb, s.frm.dpadCode, s.frm.lx, s.frm.ly, s.frm.rx, s.frm.ry, s.frm.vendor]
    ∃ t, exec .dchk s = .next t ∧
      (∀ f : Flag, f ≠ .dvalid → f ≠ .crcerr → f ≠ .dperr → t.flag f = s.flag f) ∧
      if s.flen ≠ 9#4 then
        t = { s with status := t.status, responses := s.responses ++ [⟨.frameLength, 0x0000#16⟩] } ∧
        t.flag .dvalid = false ∧ t.flag .crcerr = false ∧ t.flag .dperr = false
      else if c ≠ s.frm.check then
        t = { s with crc := c, status := t.status, responses := s.responses ++ [⟨.checksumError, 0x0000#16⟩] } ∧
        t.flag .dvalid = false ∧ t.flag .crcerr = true ∧ t.flag .dperr = false
      else if 0x08 < s.frm.dpadCode.toNat then
        t = { s with crc := c, status := t.status, responses := s.responses ++ [⟨.badDpadCode, 0x0000#16⟩] } ∧
        t.flag .dvalid = false ∧ t.flag .crcerr = false ∧ t.flag .dperr = true
      else
        t = { s with
          crc := c, dBtn := s.frm.buttonsMsb ++ s.frm.buttonsLsb, dDpad := s.frm.dpadCode.extractLsb' 0 4
          dLx := s.frm.lx, dLy := s.frm.ly, dRx := s.frm.rx, dRy := s.frm.ry, dVnd := s.frm.vendor
          status := t.status, responses := s.responses ++ [⟨.ok, 0x0000#16⟩] } ∧
        t.flag .dvalid = true ∧ t.flag .crcerr = false ∧ t.flag .dperr = false

/-- 42 R121: decode of an encoded frame recovers exactly its seven values, encoding what decode accepts gives the frame back, and so encode and decode agree on every list of inputs. -/
def Obligations.DecodeRecoversEncode : Prop :=
  (∀ p : PacketFields, p.code.toNat ≤ 8 → decodePacket p.assemble = .fields p) ∧
  (∀ (f : Frame) (p : PacketFields), decodePacket f = .fields p → p.assemble = f) ∧
  ∀ (inputs : List LogicalInput) (v : Analog) (f : Frame), encodePacket inputs v = some f →
    ∃ mask code, gather inputs = some (mask, code) ∧
      decodePacket f = .fields ⟨mask, code, v.lx, v.ly, v.rx, v.ry, v.vendor⟩

/-- 42 R120, R87 of 30 (DECODE): nine bytes given to the block and checked are judged as the source's decode operation judges them, and the encode side is not disturbed. -/
def Obligations.DecodeCallRefinesDecode : Prop :=
  ∀ (f : Frame) (s : State), ∃ t, Pseudo.run (.decode f) s = .next t ∧ t.frm = f ∧ t.crc = crc8 f.payload ∧
    t.packetFields = s.packetFields ∧ t.channel = s.channel ∧
    match decodePacket f with
    | .fields p => t.decodedFields = p ∧ t.flag .dvalid = true ∧ t.responses.getLast? = some ⟨.ok, 0x0000#16⟩
    | .corrupt => t.decodedFields = s.decodedFields ∧ t.flag .dvalid = false ∧
        t.responses.getLast? = some ⟨.checksumError, 0x0000#16⟩
    | .badDpadCode => t.decodedFields = s.decodedFields ∧ t.flag .dvalid = false ∧
        t.responses.getLast? = some ⟨.badDpadCode, 0x0000#16⟩

/-- 42 R124, 10 R28: a DCHK straight after a successful EMIT succeeds and recovers the fields just sent. DPAD is always legal (10 R24, the invariant of `InvKept`). -/
def Obligations.DchkAfterEmitRecovers : Prop :=
  ∀ s : State, s.flag .unk = false → s.dpad.toNat ≤ 8 →
    ∃ t, runCommands [.emit, .dchk] s = .next t ∧ t.flag .dvalid = true ∧ t.decodedFields = s.packetFields ∧
      t.packetFields = s.packetFields ∧
      t.responses = s.responses ++ [⟨.ok, 0x0000#16⟩, ⟨.ok, 0x0000#16⟩]

/-! ### The Display Side-Channel Encoder (43) -/

/-- 43 R139. -/
def Obligations.TclrEmptiesText : Prop :=
  EncodedAs 0x3000#16 .tclr ∧ OperandRefused 0x30#8 ∧
  ∀ s : State, ∃ t, exec .tclr s = .next t ∧
    t = { s with tlen := 0#16, status := t.status, responses := s.responses ++ [⟨.ok, 0x0000#16⟩] } ∧
    t.flag .nasc = false ∧ t.flag .tovf = false ∧
    ∀ f : Flag, f ≠ .nasc → f ≠ .tovf → t.flag f = s.flag f

/-- 43 R140: the non-ASCII test, then the test for a full buffer, then the store. TLEN is never above TEXT_MAX and TEXT_MAX never above 65535 (the invariant of `InvKept`). -/
def Obligations.TchrGathersText : Prop :=
  ∀ c : Byte, EncodedAs (0x31#8 ++ c) (.tchr c) ∧
    ∀ s : State, s.textMax ≤ 65535 → s.tlen.toNat ≤ s.textMax →
      if 0x80 ≤ c.toNat then
        ∃ t, exec (.tchr c) s = .next t ∧
          t = { s with status := t.status, responses := s.responses ++ [⟨.nonAscii, 0x0000#16⟩] } ∧
          t.flag .nasc = true ∧ ∀ f : Flag, f ≠ .nasc → t.flag f = s.flag f
      else if s.tlen.toNat = s.textMax then
        ∃ t, exec (.tchr c) s = .next t ∧
          t = { s with status := t.status, responses := s.responses ++ [⟨.textOverflow, 0x0000#16⟩] } ∧
          t.flag .tovf = true ∧ ∀ f : Flag, f ≠ .tovf → t.flag f = s.flag f
      else
        ∃ t, exec (.tchr c) s = .next t ∧
          t = { s with tbuf := t.tbuf, tlen := t.tlen, responses := s.responses ++ [⟨.ok, 0x0000#16⟩] } ∧
          t.tlen.toNat = s.tlen.toNat + 1 ∧ t.tbuf.length = s.tbuf.length ∧
          ∀ i : Nat, i < s.textMax → t.tbuf[i]? = if i = s.tlen.toNat then some c else s.tbuf[i]?

/-- 43 R141: refused while NASC is set, else while TOVF is set, with nothing sent and nothing changed; otherwise one frame, the sentinel and the text, the empty text as one space, goes out and nothing else changes. -/
def Obligations.TsendSendsDisplayFrame : Prop :=
  EncodedAs 0x3200#16 .tsend ∧ OperandRefused 0x32#8 ∧
  ∀ s : State,
    exec .tsend s =
      if s.flag .nasc = true then .next { s with responses := s.responses ++ [⟨.nonAscii, 0x0000#16⟩] }
      else if s.flag .tovf = true then .next { s with responses := s.responses ++ [⟨.textOverflow, 0x0000#16⟩] }
      else .next { s with
        channel := s.channel ++ [.write
          ([0x31#8, 0x32#8, 0x33#8, 0x34#8, 0x35#8, 0x36#8, 0x37#8, 0x38#8, 0x39#8]
            ++ if s.tlen.toNat = 0 then [0x20#8] else s.tbuf.take s.tlen.toNat)]
        responses := s.responses ++ [⟨.ok, 0x0000#16⟩] }

/-- 43 R135, 30 R87 (DISPLAY): a text of 7-bit ASCII that fits is sent as encodeDisplayText gives it, the empty one as one space; any other text sends nothing, and the last response says why. TEXT_MAX is between 1 and 65535 (00 R8). -/
def Obligations.DisplayCallRefinesEncodeDisplayText : Prop :=
  ∀ (text : List Byte) (s : State), 1 ≤ s.textMax → s.textMax ≤ 65535 →
    ∃ t, Pseudo.run (.display text) s = .next t ∧
      if text.any (fun c => !asciiByte c) = true then
        t.channel = s.channel ∧ t.responses.getLast? = some ⟨.nonAscii, 0x0000#16⟩
      else if s.textMax < text.length then
        t.channel = s.channel ∧ t.responses.getLast? = some ⟨.textOverflow, 0x0000#16⟩
      else
        t.channel = s.channel ++ [.write (encodeDisplayText text)] ∧ t.responses.getLast? = some ⟨.ok, 0x0000#16⟩

/-- 30 R81, R80: no frame the encoder can make is the sentinel, for both reasons the rule gives, and a receiver takes every display frame for display. -/
def Obligations.SentinelCollidesWithNoPacket : Prop :=
  (∀ p : PacketFields, p.code.toNat ≤ 8 →
    p.assemble.bytes ≠ Config.SENTINEL ∧ classify9 p.assemble.bytes = .input) ∧
  crc8 [0x31#8, 0x32#8, 0x33#8, 0x34#8, 0x35#8, 0x36#8, 0x37#8, 0x38#8] = 0xC7#8 ∧
  (∀ f : Frame, f.bytes = Config.SENTINEL → decodePacket f = .corrupt) ∧
  ∀ text : List Byte, classify9 ((encodeDisplayText text).take 9) = .display ∧ 10 ≤ (encodeDisplayText text).length

/-! ### System commands (44) -/

/-- 44 R150. -/
def Obligations.NopDoesNothing : Prop :=
  EncodedAs 0x0000#16 .nop ∧ OperandRefused 0x00#8 ∧
  ∀ s : State, exec .nop s = .next { s with responses := s.responses ++ [⟨.ok, 0x0000#16⟩] }

/-- 44 R151, R152, 10 R36: each number of the table reads its register zero-extended, every other number is refused, and nothing changes. -/
def Obligations.RdReadsRegisterByNumber : Prop :=
  let table (s : State) : List (Byte × Word) :=
    [(0x00#8, s.btn), (0x01#8, s.dpad.setWidth 16), (0x02#8, s.lx.setWidth 16), (0x03#8, s.ly.setWidth 16),
      (0x04#8, s.rx.setWidth 16), (0x05#8, s.ry.setWidth 16), (0x06#8, s.vnd.setWidth 16), (0x07#8, s.crc.setWidth 16),
      (0x08#8, s.status.setWidth 16), (0x09#8, s.ack.setWidth 16), (0x0A#8, s.flen.setWidth 16), (0x0B#8, s.tlen)]
    ++ [(0x10#8, s.frm.buttonsLsb.setWidth 16), (0x11#8, s.frm.buttonsMsb.setWidth 16), (0x12#8, s.frm.dpadCode.setWidth 16),
      (0x13#8, s.frm.lx.setWidth 16), (0x14#8, s.frm.ly.setWidth 16), (0x15#8, s.frm.rx.setWidth 16),
      (0x16#8, s.frm.ry.setWidth 16), (0x17#8, s.frm.vendor.setWidth 16), (0x18#8, s.frm.check.setWidth 16)]
    ++ [(0x20#8, s.dBtn), (0x21#8, s.dDpad.setWidth 16), (0x22#8, s.dLx.setWidth 16), (0x23#8, s.dLy.setWidth 16),
      (0x24#8, s.dRx.setWidth 16), (0x25#8, s.dRy.setWidth 16), (0x26#8, s.dVnd.setWidth 16)]
  ∀ n : Byte, EncodedAs (0x40#8 ++ n) (.rd (RegSel.ofNumber n)) ∧
    ∀ s : State,
      (∀ v, (n, v) ∈ table s →
        exec (.rd (RegSel.ofNumber n)) s = .next { s with responses := s.responses ++ [⟨.ok, v⟩] }) ∧
      ((0x0C ≤ n.toNat ∧ n.toNat ≤ 0x0F) ∨ (0x19 ≤ n.toNat ∧ n.toNat ≤ 0x1F) ∨ 0x27 ≤ n.toNat →
        exec (.rd (RegSel.ofNumber n)) s = .next { s with responses := s.responses ++ [⟨.badRegister, 0x0000#16⟩] })

/-! ### Reset (10 R39, 70) -/

/-- 10 R39: every register after reset, and that CLR; CRCINIT; DBEG; TCLR run from reset leaves the same registers. -/
def Obligations.ResetValues : Prop :=
  (let r := State.reset
   r.btn = 0x0000#16 ∧ r.dpad = 0x8#4 ∧ r.lx = 0x80#8 ∧ r.ly = 0x80#8 ∧ r.rx = 0x80#8 ∧ r.ry = 0x80#8 ∧ r.vnd = 0x00#8 ∧
   r.crc = 0x00#8 ∧ (∀ i : Fin 9, r.frm.get i = 0x00#8) ∧ r.flen = 0#4 ∧ r.ack = 0x00#8 ∧
   r.dBtn = 0x0000#16 ∧ r.dDpad = 0x8#4 ∧ r.dLx = 0x80#8 ∧ r.dLy = 0x80#8 ∧ r.dRx = 0x80#8 ∧ r.dRy = 0x80#8 ∧ r.dVnd = 0x00#8 ∧
   (∀ c ∈ r.tbuf, c = 0x00#8) ∧ r.tlen = 0#16 ∧ r.status = 0x00#8) ∧
  ∃ t, runCommands [.clr, .crcinit, .dbeg, .tclr] State.reset = .next t ∧ t.registersOf = State.reset.registersOf

/-- 70 R204: after reset EMIT sends the neutral frame, TSEND the sentinel and a space, and DCHK answers FRAME_LENGTH. -/
def Obligations.FirstCommandsAfterReset : Prop :=
  (∃ t, exec .emit State.reset = .next t ∧
    t.tx = [[0x00#8, 0x00#8, 0x08#8, 0x80#8, 0x80#8, 0x80#8, 0x80#8, 0x00#8, 0x54#8]]) ∧
  (∃ t, exec .tsend State.reset = .next t ∧
    t.tx = [[0x31#8, 0x32#8, 0x33#8, 0x34#8, 0x35#8, 0x36#8, 0x37#8, 0x38#8, 0x39#8, 0x20#8]]) ∧
  ∃ t, exec .dchk State.reset = .next t ∧ t.responses = [⟨.frameLength, 0x0000#16⟩]

/-- 70 R201: a reset between commands puts every register at its reset value and touches neither the channel nor what the host and the channel have yet to supply. -/
def Obligations.ResetEventLeavesChannel : Prop :=
  ∀ s : State, s.resetEvent.registersOf = (State.resetWith s.textMax).registersOf ∧ s.resetEvent.channel = s.channel ∧
    s.resetEvent.rxTape = s.rxTape ∧ s.resetEvent.rxDraws = s.rxDraws ∧ s.resetEvent.hostCmds = s.hostCmds

/-! ### The whole block -/

/-- The invariant holds after reset, and no ill-formed frame has been sent. -/
def Obligations.ResetMeetsInv : Prop := State.reset.Inv ∧ State.reset.SentWellFormed

/-- 10 R24, R29, R31 to R33, R35: every step keeps the invariant, from every state that meets it. -/
def Obligations.InvKept : Prop :=
  ∀ s t : State, s.Inv → step s = .next t → t.Inv

/-- 20 R52, R63, 30 R79, R74: every frame on the channel is a whole checksum-valid InputPacket with a legal dpad code, or the sentinel with 1 to TEXT_MAX bytes of ASCII; every step keeps that, and no step takes back a frame or changes TEXT_MAX. -/
def Obligations.SentFramesWellFormed : Prop :=
  ∀ s t : State, s.Inv → s.SentWellFormed → step s = .next t →
    t.SentWellFormed ∧ t.textMax = s.textMax ∧ ∃ new, t.channel = s.channel ++ new ∧ new.length ≤ 2

/-- 10 R33, R34: each flag is the bit of STATUS its row gives, and a command changes only the flags whose rows name it; in particular RD changes none and a refused EMIT none. -/
def Obligations.FlagsChangedOnlyByTheirCommands : Prop :=
  (∀ s : State,
    s.flag .unk = s.status.getLsbD 0 ∧ s.flag .nasc = s.status.getLsbD 1 ∧ s.flag .tovf = s.status.getLsbD 2 ∧
    s.flag .dvalid = s.status.getLsbD 3 ∧ s.flag .crcerr = s.status.getLsbD 4 ∧ s.flag .dperr = s.status.getLsbD 5 ∧
    s.flag .ackv = s.status.getLsbD 6 ∧ s.flag .ackm = s.status.getLsbD 7) ∧
  ∀ (i : Instr) (s t : State) (f : Flag), exec i s = .next t → t.flag f ≠ s.flag f →
    match f with
    | .unk => i = .clr ∨ ∃ c, i = .push (.unknown c)
    | .nasc => i = .tclr ∨ ∃ c, i = .tchr c
    | .tovf => i = .tclr ∨ ∃ c, i = .tchr c
    | .dvalid => i = .dbeg ∨ (∃ b, i = .dbyte b) ∨ (i = .emit ∧ s.flag .unk = false) ∨ i = .dchk
    | .crcerr => i = .dbeg ∨ (∃ b, i = .dbyte b) ∨ (i = .emit ∧ s.flag .unk = false) ∨ i = .dchk
    | .dperr => i = .dbeg ∨ (∃ b, i = .dbyte b) ∨ (i = .emit ∧ s.flag .unk = false) ∨ i = .dchk
    | .ackv => i = .emit ∧ s.flag .unk = false
    | .ackm => i = .emit ∧ s.flag .unk = false

/-- 10 R23 to R35, R37: a command changes only the registers whose rules name it. -/
def Obligations.RegistersWrittenOnlyByTheirCommands : Prop :=
  ∀ (i : Instr) (s t : State), exec i s = .next t →
    (t.btn ≠ s.btn → i = .clr ∨ ∃ k, i = .push (.button k)) ∧
    (t.dpad ≠ s.dpad → i = .clr ∨ ∃ d, i = .push (.dpad d)) ∧
    (t.lx ≠ s.lx → i = .clr ∨ ∃ v, i = .setlx v) ∧ (t.ly ≠ s.ly → i = .clr ∨ ∃ v, i = .setly v) ∧
    (t.rx ≠ s.rx → i = .clr ∨ ∃ v, i = .setrx v) ∧ (t.ry ≠ s.ry → i = .clr ∨ ∃ v, i = .setry v) ∧
    (t.vnd ≠ s.vnd → i = .clr ∨ ∃ v, i = .setvnd v) ∧
    (t.crc ≠ s.crc → i = .crcinit ∨ (∃ b, i = .crcbyte b) ∨ i = .emit ∨ i = .dchk) ∧
    (t.frm ≠ s.frm → i = .emit ∨ ∃ b, i = .dbyte b) ∧
    (t.flen ≠ s.flen → i = .dbeg ∨ (∃ b, i = .dbyte b) ∨ i = .emit) ∧
    (t.decodedFields ≠ s.decodedFields → i = .dchk ∧ t.flag .dvalid = true) ∧
    (t.tbuf ≠ s.tbuf → ∃ c, i = .tchr c) ∧ (t.tlen ≠ s.tlen → i = .tclr ∨ ∃ c, i = .tchr c) ∧
    (t.ack ≠ s.ack → i = .emit)

/-- 70 R209, 41 R108, 43 R141: a poisoned call stays poisoned until CLR, a poisoned text until TCLR. -/
def Obligations.PoisonPersists : Prop :=
  ∀ (i : Instr) (s t : State), exec i s = .next t →
    (i ≠ .clr → s.flag .unk = true → t.flag .unk = true) ∧
    (i ≠ .tclr → s.flag .nasc = true → t.flag .nasc = true) ∧
    (i ≠ .tclr → s.flag .tovf = true → t.flag .tovf = true)

/-- 20 R52, R53, R59, R63: only EMIT and TSEND use the channel; an EMIT reads once and then writes nine bytes, or does neither; a TSEND writes one frame of ten bytes or more and reads nothing, or does nothing. -/
def Obligations.ChannelUsedOnlyByEmitAndTsend : Prop :=
  ∀ (i : Instr) (s t : State), 1 ≤ s.textMax → exec i s = .next t →
    t.channel = s.channel ∨
    (i = .emit ∧ ∃ a f, t.channel = s.channel ++ [.read a, .write f] ∧ f.length = 9) ∨
    (i = .tsend ∧ ∃ f, t.channel = s.channel ++ [.write f] ∧ 10 ≤ f.length ∧ f.length ≤ 9 + s.textMax)

/-- 70 R203: a command executes exactly as its rule says, by the block's own step, whatever the link state is, and no command changes it. -/
def Obligations.BlockIgnoresLinkState : Prop :=
  ∀ (n : Option Nat) (w : Word) (y : System) (other : Session),
    ∃ t, y.codec.runWord w = some t ∧ step (y.codec.present (w :: y.codec.hostCmds)) = .next t ∧
      System.step n (.command w) y = some { y with codec := t } ∧
      System.step n (.command w) { y with session := other } = some { y with codec := t, session := other }

/-! ### The link context (45) -/

/-- 45 R164, R162, R166: the Vanilla attempt succeeds exactly on the answers 0xFF, 0xCC, 0x33, and otherwise names the first step whose answer differs and what was received; it writes 0xFF, 0x33, 0xCC, one byte before each read, and does nothing after the step that fails. -/
def Obligations.VanillaNamesFirstFailingStep : Prop :=
  ∀ a : Answers,
    (attempt .vanilla a).2 =
      (if a.first ≠ some 0xFF#8 then some ⟨1, a.first⟩
       else if a.second ≠ some 0xCC#8 then some ⟨2, a.second⟩
       else if a.third ≠ some 0x33#8 then some ⟨3, a.third⟩
       else none) ∧
    (attempt .vanilla a).1 = [.bufferClear, .wait 100] ++
      [.write 0xFF#8, .wait 50, .read a.first, .write 0x33#8, .wait 50, .read a.second,
        .write 0xCC#8, .wait 50, .read a.third].take (((attempt .vanilla a).2.map fun m => 3 * m.step).getD 9)

/-- 45 R165, R162: the Chocolate attempt takes any byte at step 3; it writes 0xFF, 0x44, 0xEE, one byte before each read, and does nothing after the step that fails. 45 R160: an attempt that succeeds makes the link Ready, and its third byte is kept as the controller's type; that this is one event of the session is the model's choice (log entry 11). -/
def Obligations.ChocolateTakesAnyIdentifier : Prop :=
  ∀ a : Answers,
    (attempt .chocolate a).2 =
      (if a.first ≠ some 0xFF#8 then some ⟨1, a.first⟩
       else if a.second ≠ some 0xEE#8 then some ⟨2, a.second⟩
       else if a.third = none then some ⟨3, none⟩
       else none) ∧
    (attempt .chocolate a).1 = [.bufferClear, .wait 100] ++
      [.write 0xFF#8, .wait 50, .read a.first, .write 0x44#8, .wait 50, .read a.second,
        .write 0xEE#8, .wait 50, .read a.third].take (((attempt .chocolate a).2.map fun m => 3 * m.step).getD 9) ∧
    ∀ (n : Option Nat) (s : Session), s.link = .handshaking → s.variant = some .chocolate → (attempt .chocolate a).2 = none →
      ∃ t, Session.step n (.finish a) s = some t ∧ t.link = .ready ∧ t.controllerType = a.third

/-- 45 R160, R170, 90 C4: every event moves the link along an edge of the lifecycle; Ready is reached only by an attempt that met no mismatch, after the settle; Failed only when a bound on attempts is reached. -/
def Obligations.SessionFollowsLifecycle : Prop :=
  ∀ (n : Option Nat) (e : LinkEvent) (s t : Session), Session.step n e s = some t →
    s.link.edge t.link = true ∧
    (t.link = .ready → ∃ v a, s.variant = some v ∧ e = .finish a ∧ (attempt v a).2 = none ∧
      t.actions = s.actions ++ (attempt v a).1 ++ [.wait 3000]) ∧
    (t.link = .failed → ∃ bound, n = some bound ∧ bound ≤ t.failures)
end

