-- ==== Sys2Proof/Laws/State.lean ====
section
/-! SUPPORT. One lemma per field of State for each shared update, true by rfl: what the update writes, and that it leaves every other field alone. -/

namespace Sys2Proof.Machine

/-! ### `State.takeCommand` -/

@[simp] theorem State.takeCommand_btn (s : State) : (s.takeCommand).btn = s.btn := rfl
@[simp] theorem State.takeCommand_dpad (s : State) : (s.takeCommand).dpad = s.dpad := rfl
@[simp] theorem State.takeCommand_lx (s : State) : (s.takeCommand).lx = s.lx := rfl
@[simp] theorem State.takeCommand_ly (s : State) : (s.takeCommand).ly = s.ly := rfl
@[simp] theorem State.takeCommand_rx (s : State) : (s.takeCommand).rx = s.rx := rfl
@[simp] theorem State.takeCommand_ry (s : State) : (s.takeCommand).ry = s.ry := rfl
@[simp] theorem State.takeCommand_vnd (s : State) : (s.takeCommand).vnd = s.vnd := rfl
@[simp] theorem State.takeCommand_crc (s : State) : (s.takeCommand).crc = s.crc := rfl
@[simp] theorem State.takeCommand_frm (s : State) : (s.takeCommand).frm = s.frm := rfl
@[simp] theorem State.takeCommand_flen (s : State) : (s.takeCommand).flen = s.flen := rfl
@[simp] theorem State.takeCommand_dBtn (s : State) : (s.takeCommand).dBtn = s.dBtn := rfl
@[simp] theorem State.takeCommand_dDpad (s : State) : (s.takeCommand).dDpad = s.dDpad := rfl
@[simp] theorem State.takeCommand_dLx (s : State) : (s.takeCommand).dLx = s.dLx := rfl
@[simp] theorem State.takeCommand_dLy (s : State) : (s.takeCommand).dLy = s.dLy := rfl
@[simp] theorem State.takeCommand_dRx (s : State) : (s.takeCommand).dRx = s.dRx := rfl
@[simp] theorem State.takeCommand_dRy (s : State) : (s.takeCommand).dRy = s.dRy := rfl
@[simp] theorem State.takeCommand_dVnd (s : State) : (s.takeCommand).dVnd = s.dVnd := rfl
@[simp] theorem State.takeCommand_tbuf (s : State) : (s.takeCommand).tbuf = s.tbuf := rfl
@[simp] theorem State.takeCommand_tlen (s : State) : (s.takeCommand).tlen = s.tlen := rfl
@[simp] theorem State.takeCommand_status (s : State) : (s.takeCommand).status = s.status := rfl
@[simp] theorem State.takeCommand_ack (s : State) : (s.takeCommand).ack = s.ack := rfl
@[simp] theorem State.takeCommand_channel (s : State) : (s.takeCommand).channel = s.channel := rfl
@[simp] theorem State.takeCommand_responses (s : State) : (s.takeCommand).responses = s.responses := rfl
@[simp] theorem State.takeCommand_hostCmds (s : State) : (s.takeCommand).hostCmds = s.hostCmds.tail := rfl
@[simp] theorem State.takeCommand_rxTape (s : State) : (s.takeCommand).rxTape = s.rxTape := rfl
@[simp] theorem State.takeCommand_rxDraws (s : State) : (s.takeCommand).rxDraws = s.rxDraws := rfl

/-! ### `State.present` -/

@[simp] theorem State.present_btn (s : State) (w : List Word) : (s.present w).btn = s.btn := rfl
@[simp] theorem State.present_dpad (s : State) (w : List Word) : (s.present w).dpad = s.dpad := rfl
@[simp] theorem State.present_lx (s : State) (w : List Word) : (s.present w).lx = s.lx := rfl
@[simp] theorem State.present_ly (s : State) (w : List Word) : (s.present w).ly = s.ly := rfl
@[simp] theorem State.present_rx (s : State) (w : List Word) : (s.present w).rx = s.rx := rfl
@[simp] theorem State.present_ry (s : State) (w : List Word) : (s.present w).ry = s.ry := rfl
@[simp] theorem State.present_vnd (s : State) (w : List Word) : (s.present w).vnd = s.vnd := rfl
@[simp] theorem State.present_crc (s : State) (w : List Word) : (s.present w).crc = s.crc := rfl
@[simp] theorem State.present_frm (s : State) (w : List Word) : (s.present w).frm = s.frm := rfl
@[simp] theorem State.present_flen (s : State) (w : List Word) : (s.present w).flen = s.flen := rfl
@[simp] theorem State.present_dBtn (s : State) (w : List Word) : (s.present w).dBtn = s.dBtn := rfl
@[simp] theorem State.present_dDpad (s : State) (w : List Word) : (s.present w).dDpad = s.dDpad := rfl
@[simp] theorem State.present_dLx (s : State) (w : List Word) : (s.present w).dLx = s.dLx := rfl
@[simp] theorem State.present_dLy (s : State) (w : List Word) : (s.present w).dLy = s.dLy := rfl
@[simp] theorem State.present_dRx (s : State) (w : List Word) : (s.present w).dRx = s.dRx := rfl
@[simp] theorem State.present_dRy (s : State) (w : List Word) : (s.present w).dRy = s.dRy := rfl
@[simp] theorem State.present_dVnd (s : State) (w : List Word) : (s.present w).dVnd = s.dVnd := rfl
@[simp] theorem State.present_tbuf (s : State) (w : List Word) : (s.present w).tbuf = s.tbuf := rfl
@[simp] theorem State.present_tlen (s : State) (w : List Word) : (s.present w).tlen = s.tlen := rfl
@[simp] theorem State.present_status (s : State) (w : List Word) : (s.present w).status = s.status := rfl
@[simp] theorem State.present_ack (s : State) (w : List Word) : (s.present w).ack = s.ack := rfl
@[simp] theorem State.present_channel (s : State) (w : List Word) : (s.present w).channel = s.channel := rfl
@[simp] theorem State.present_responses (s : State) (w : List Word) : (s.present w).responses = s.responses := rfl
@[simp] theorem State.present_hostCmds (s : State) (w : List Word) : (s.present w).hostCmds = w := rfl
@[simp] theorem State.present_rxTape (s : State) (w : List Word) : (s.present w).rxTape = s.rxTape := rfl
@[simp] theorem State.present_rxDraws (s : State) (w : List Word) : (s.present w).rxDraws = s.rxDraws := rfl

/-! ### `State.respondWith` -/

@[simp] theorem State.respondWith_btn (s : State) (c : RespCode) (d : Word) : (s.respondWith c d).btn = s.btn := rfl
@[simp] theorem State.respondWith_dpad (s : State) (c : RespCode) (d : Word) : (s.respondWith c d).dpad = s.dpad := rfl
@[simp] theorem State.respondWith_lx (s : State) (c : RespCode) (d : Word) : (s.respondWith c d).lx = s.lx := rfl
@[simp] theorem State.respondWith_ly (s : State) (c : RespCode) (d : Word) : (s.respondWith c d).ly = s.ly := rfl
@[simp] theorem State.respondWith_rx (s : State) (c : RespCode) (d : Word) : (s.respondWith c d).rx = s.rx := rfl
@[simp] theorem State.respondWith_ry (s : State) (c : RespCode) (d : Word) : (s.respondWith c d).ry = s.ry := rfl
@[simp] theorem State.respondWith_vnd (s : State) (c : RespCode) (d : Word) : (s.respondWith c d).vnd = s.vnd := rfl
@[simp] theorem State.respondWith_crc (s : State) (c : RespCode) (d : Word) : (s.respondWith c d).crc = s.crc := rfl
@[simp] theorem State.respondWith_frm (s : State) (c : RespCode) (d : Word) : (s.respondWith c d).frm = s.frm := rfl
@[simp] theorem State.respondWith_flen (s : State) (c : RespCode) (d : Word) : (s.respondWith c d).flen = s.flen := rfl
@[simp] theorem State.respondWith_dBtn (s : State) (c : RespCode) (d : Word) : (s.respondWith c d).dBtn = s.dBtn := rfl
@[simp] theorem State.respondWith_dDpad (s : State) (c : RespCode) (d : Word) : (s.respondWith c d).dDpad = s.dDpad := rfl
@[simp] theorem State.respondWith_dLx (s : State) (c : RespCode) (d : Word) : (s.respondWith c d).dLx = s.dLx := rfl
@[simp] theorem State.respondWith_dLy (s : State) (c : RespCode) (d : Word) : (s.respondWith c d).dLy = s.dLy := rfl
@[simp] theorem State.respondWith_dRx (s : State) (c : RespCode) (d : Word) : (s.respondWith c d).dRx = s.dRx := rfl
@[simp] theorem State.respondWith_dRy (s : State) (c : RespCode) (d : Word) : (s.respondWith c d).dRy = s.dRy := rfl
@[simp] theorem State.respondWith_dVnd (s : State) (c : RespCode) (d : Word) : (s.respondWith c d).dVnd = s.dVnd := rfl
@[simp] theorem State.respondWith_tbuf (s : State) (c : RespCode) (d : Word) : (s.respondWith c d).tbuf = s.tbuf := rfl
@[simp] theorem State.respondWith_tlen (s : State) (c : RespCode) (d : Word) : (s.respondWith c d).tlen = s.tlen := rfl
@[simp] theorem State.respondWith_status (s : State) (c : RespCode) (d : Word) : (s.respondWith c d).status = s.status := rfl
@[simp] theorem State.respondWith_ack (s : State) (c : RespCode) (d : Word) : (s.respondWith c d).ack = s.ack := rfl
@[simp] theorem State.respondWith_channel (s : State) (c : RespCode) (d : Word) : (s.respondWith c d).channel = s.channel := rfl
@[simp] theorem State.respondWith_responses (s : State) (c : RespCode) (d : Word) : (s.respondWith c d).responses = s.responses ++ [⟨c, d⟩] := rfl
@[simp] theorem State.respondWith_hostCmds (s : State) (c : RespCode) (d : Word) : (s.respondWith c d).hostCmds = s.hostCmds := rfl
@[simp] theorem State.respondWith_rxTape (s : State) (c : RespCode) (d : Word) : (s.respondWith c d).rxTape = s.rxTape := rfl
@[simp] theorem State.respondWith_rxDraws (s : State) (c : RespCode) (d : Word) : (s.respondWith c d).rxDraws = s.rxDraws := rfl

/-! ### `State.respond` -/

@[simp] theorem State.respond_btn (s : State) (c : RespCode) : (s.respond c).btn = s.btn := rfl
@[simp] theorem State.respond_dpad (s : State) (c : RespCode) : (s.respond c).dpad = s.dpad := rfl
@[simp] theorem State.respond_lx (s : State) (c : RespCode) : (s.respond c).lx = s.lx := rfl
@[simp] theorem State.respond_ly (s : State) (c : RespCode) : (s.respond c).ly = s.ly := rfl
@[simp] theorem State.respond_rx (s : State) (c : RespCode) : (s.respond c).rx = s.rx := rfl
@[simp] theorem State.respond_ry (s : State) (c : RespCode) : (s.respond c).ry = s.ry := rfl
@[simp] theorem State.respond_vnd (s : State) (c : RespCode) : (s.respond c).vnd = s.vnd := rfl
@[simp] theorem State.respond_crc (s : State) (c : RespCode) : (s.respond c).crc = s.crc := rfl
@[simp] theorem State.respond_frm (s : State) (c : RespCode) : (s.respond c).frm = s.frm := rfl
@[simp] theorem State.respond_flen (s : State) (c : RespCode) : (s.respond c).flen = s.flen := rfl
@[simp] theorem State.respond_dBtn (s : State) (c : RespCode) : (s.respond c).dBtn = s.dBtn := rfl
@[simp] theorem State.respond_dDpad (s : State) (c : RespCode) : (s.respond c).dDpad = s.dDpad := rfl
@[simp] theorem State.respond_dLx (s : State) (c : RespCode) : (s.respond c).dLx = s.dLx := rfl
@[simp] theorem State.respond_dLy (s : State) (c : RespCode) : (s.respond c).dLy = s.dLy := rfl
@[simp] theorem State.respond_dRx (s : State) (c : RespCode) : (s.respond c).dRx = s.dRx := rfl
@[simp] theorem State.respond_dRy (s : State) (c : RespCode) : (s.respond c).dRy = s.dRy := rfl
@[simp] theorem State.respond_dVnd (s : State) (c : RespCode) : (s.respond c).dVnd = s.dVnd := rfl
@[simp] theorem State.respond_tbuf (s : State) (c : RespCode) : (s.respond c).tbuf = s.tbuf := rfl
@[simp] theorem State.respond_tlen (s : State) (c : RespCode) : (s.respond c).tlen = s.tlen := rfl
@[simp] theorem State.respond_status (s : State) (c : RespCode) : (s.respond c).status = s.status := rfl
@[simp] theorem State.respond_ack (s : State) (c : RespCode) : (s.respond c).ack = s.ack := rfl
@[simp] theorem State.respond_channel (s : State) (c : RespCode) : (s.respond c).channel = s.channel := rfl
@[simp] theorem State.respond_responses (s : State) (c : RespCode) : (s.respond c).responses = s.responses ++ [⟨c, 0x0000#16⟩] := rfl
@[simp] theorem State.respond_hostCmds (s : State) (c : RespCode) : (s.respond c).hostCmds = s.hostCmds := rfl
@[simp] theorem State.respond_rxTape (s : State) (c : RespCode) : (s.respond c).rxTape = s.rxTape := rfl
@[simp] theorem State.respond_rxDraws (s : State) (c : RespCode) : (s.respond c).rxDraws = s.rxDraws := rfl

/-! ### `State.setFlag` -/

@[simp] theorem State.setFlag_btn (s : State) (f : Flag) (v : Bool) : (s.setFlag f v).btn = s.btn := rfl
@[simp] theorem State.setFlag_dpad (s : State) (f : Flag) (v : Bool) : (s.setFlag f v).dpad = s.dpad := rfl
@[simp] theorem State.setFlag_lx (s : State) (f : Flag) (v : Bool) : (s.setFlag f v).lx = s.lx := rfl
@[simp] theorem State.setFlag_ly (s : State) (f : Flag) (v : Bool) : (s.setFlag f v).ly = s.ly := rfl
@[simp] theorem State.setFlag_rx (s : State) (f : Flag) (v : Bool) : (s.setFlag f v).rx = s.rx := rfl
@[simp] theorem State.setFlag_ry (s : State) (f : Flag) (v : Bool) : (s.setFlag f v).ry = s.ry := rfl
@[simp] theorem State.setFlag_vnd (s : State) (f : Flag) (v : Bool) : (s.setFlag f v).vnd = s.vnd := rfl
@[simp] theorem State.setFlag_crc (s : State) (f : Flag) (v : Bool) : (s.setFlag f v).crc = s.crc := rfl
@[simp] theorem State.setFlag_frm (s : State) (f : Flag) (v : Bool) : (s.setFlag f v).frm = s.frm := rfl
@[simp] theorem State.setFlag_flen (s : State) (f : Flag) (v : Bool) : (s.setFlag f v).flen = s.flen := rfl
@[simp] theorem State.setFlag_dBtn (s : State) (f : Flag) (v : Bool) : (s.setFlag f v).dBtn = s.dBtn := rfl
@[simp] theorem State.setFlag_dDpad (s : State) (f : Flag) (v : Bool) : (s.setFlag f v).dDpad = s.dDpad := rfl
@[simp] theorem State.setFlag_dLx (s : State) (f : Flag) (v : Bool) : (s.setFlag f v).dLx = s.dLx := rfl
@[simp] theorem State.setFlag_dLy (s : State) (f : Flag) (v : Bool) : (s.setFlag f v).dLy = s.dLy := rfl
@[simp] theorem State.setFlag_dRx (s : State) (f : Flag) (v : Bool) : (s.setFlag f v).dRx = s.dRx := rfl
@[simp] theorem State.setFlag_dRy (s : State) (f : Flag) (v : Bool) : (s.setFlag f v).dRy = s.dRy := rfl
@[simp] theorem State.setFlag_dVnd (s : State) (f : Flag) (v : Bool) : (s.setFlag f v).dVnd = s.dVnd := rfl
@[simp] theorem State.setFlag_tbuf (s : State) (f : Flag) (v : Bool) : (s.setFlag f v).tbuf = s.tbuf := rfl
@[simp] theorem State.setFlag_tlen (s : State) (f : Flag) (v : Bool) : (s.setFlag f v).tlen = s.tlen := rfl
@[simp] theorem State.setFlag_status (s : State) (f : Flag) (v : Bool) : (s.setFlag f v).status = statusWith s.status f v := rfl
@[simp] theorem State.setFlag_ack (s : State) (f : Flag) (v : Bool) : (s.setFlag f v).ack = s.ack := rfl
@[simp] theorem State.setFlag_channel (s : State) (f : Flag) (v : Bool) : (s.setFlag f v).channel = s.channel := rfl
@[simp] theorem State.setFlag_responses (s : State) (f : Flag) (v : Bool) : (s.setFlag f v).responses = s.responses := rfl
@[simp] theorem State.setFlag_hostCmds (s : State) (f : Flag) (v : Bool) : (s.setFlag f v).hostCmds = s.hostCmds := rfl
@[simp] theorem State.setFlag_rxTape (s : State) (f : Flag) (v : Bool) : (s.setFlag f v).rxTape = s.rxTape := rfl
@[simp] theorem State.setFlag_rxDraws (s : State) (f : Flag) (v : Bool) : (s.setFlag f v).rxDraws = s.rxDraws := rfl

/-! ### `State.setDecodeFlags` -/

@[simp] theorem State.setDecodeFlags_btn (s : State) (a b c : Bool) : (s.setDecodeFlags a b c).btn = s.btn := rfl
@[simp] theorem State.setDecodeFlags_dpad (s : State) (a b c : Bool) : (s.setDecodeFlags a b c).dpad = s.dpad := rfl
@[simp] theorem State.setDecodeFlags_lx (s : State) (a b c : Bool) : (s.setDecodeFlags a b c).lx = s.lx := rfl
@[simp] theorem State.setDecodeFlags_ly (s : State) (a b c : Bool) : (s.setDecodeFlags a b c).ly = s.ly := rfl
@[simp] theorem State.setDecodeFlags_rx (s : State) (a b c : Bool) : (s.setDecodeFlags a b c).rx = s.rx := rfl
@[simp] theorem State.setDecodeFlags_ry (s : State) (a b c : Bool) : (s.setDecodeFlags a b c).ry = s.ry := rfl
@[simp] theorem State.setDecodeFlags_vnd (s : State) (a b c : Bool) : (s.setDecodeFlags a b c).vnd = s.vnd := rfl
@[simp] theorem State.setDecodeFlags_crc (s : State) (a b c : Bool) : (s.setDecodeFlags a b c).crc = s.crc := rfl
@[simp] theorem State.setDecodeFlags_frm (s : State) (a b c : Bool) : (s.setDecodeFlags a b c).frm = s.frm := rfl
@[simp] theorem State.setDecodeFlags_flen (s : State) (a b c : Bool) : (s.setDecodeFlags a b c).flen = s.flen := rfl
@[simp] theorem State.setDecodeFlags_dBtn (s : State) (a b c : Bool) : (s.setDecodeFlags a b c).dBtn = s.dBtn := rfl
@[simp] theorem State.setDecodeFlags_dDpad (s : State) (a b c : Bool) : (s.setDecodeFlags a b c).dDpad = s.dDpad := rfl
@[simp] theorem State.setDecodeFlags_dLx (s : State) (a b c : Bool) : (s.setDecodeFlags a b c).dLx = s.dLx := rfl
@[simp] theorem State.setDecodeFlags_dLy (s : State) (a b c : Bool) : (s.setDecodeFlags a b c).dLy = s.dLy := rfl
@[simp] theorem State.setDecodeFlags_dRx (s : State) (a b c : Bool) : (s.setDecodeFlags a b c).dRx = s.dRx := rfl
@[simp] theorem State.setDecodeFlags_dRy (s : State) (a b c : Bool) : (s.setDecodeFlags a b c).dRy = s.dRy := rfl
@[simp] theorem State.setDecodeFlags_dVnd (s : State) (a b c : Bool) : (s.setDecodeFlags a b c).dVnd = s.dVnd := rfl
@[simp] theorem State.setDecodeFlags_tbuf (s : State) (a b c : Bool) : (s.setDecodeFlags a b c).tbuf = s.tbuf := rfl
@[simp] theorem State.setDecodeFlags_tlen (s : State) (a b c : Bool) : (s.setDecodeFlags a b c).tlen = s.tlen := rfl
@[simp] theorem State.setDecodeFlags_status (s : State) (a b c : Bool) : (s.setDecodeFlags a b c).status = statusWith (statusWith (statusWith s.status .dvalid a) .crcerr b) .dperr c := rfl
@[simp] theorem State.setDecodeFlags_ack (s : State) (a b c : Bool) : (s.setDecodeFlags a b c).ack = s.ack := rfl
@[simp] theorem State.setDecodeFlags_channel (s : State) (a b c : Bool) : (s.setDecodeFlags a b c).channel = s.channel := rfl
@[simp] theorem State.setDecodeFlags_responses (s : State) (a b c : Bool) : (s.setDecodeFlags a b c).responses = s.responses := rfl
@[simp] theorem State.setDecodeFlags_hostCmds (s : State) (a b c : Bool) : (s.setDecodeFlags a b c).hostCmds = s.hostCmds := rfl
@[simp] theorem State.setDecodeFlags_rxTape (s : State) (a b c : Bool) : (s.setDecodeFlags a b c).rxTape = s.rxTape := rfl
@[simp] theorem State.setDecodeFlags_rxDraws (s : State) (a b c : Bool) : (s.setDecodeFlags a b c).rxDraws = s.rxDraws := rfl

/-! ### `State.rxTry` -/

@[simp] theorem State.rxTry_btn (s : State) : (s.rxTry).btn = s.btn := rfl
@[simp] theorem State.rxTry_dpad (s : State) : (s.rxTry).dpad = s.dpad := rfl
@[simp] theorem State.rxTry_lx (s : State) : (s.rxTry).lx = s.lx := rfl
@[simp] theorem State.rxTry_ly (s : State) : (s.rxTry).ly = s.ly := rfl
@[simp] theorem State.rxTry_rx (s : State) : (s.rxTry).rx = s.rx := rfl
@[simp] theorem State.rxTry_ry (s : State) : (s.rxTry).ry = s.ry := rfl
@[simp] theorem State.rxTry_vnd (s : State) : (s.rxTry).vnd = s.vnd := rfl
@[simp] theorem State.rxTry_crc (s : State) : (s.rxTry).crc = s.crc := rfl
@[simp] theorem State.rxTry_frm (s : State) : (s.rxTry).frm = s.frm := rfl
@[simp] theorem State.rxTry_flen (s : State) : (s.rxTry).flen = s.flen := rfl
@[simp] theorem State.rxTry_dBtn (s : State) : (s.rxTry).dBtn = s.dBtn := rfl
@[simp] theorem State.rxTry_dDpad (s : State) : (s.rxTry).dDpad = s.dDpad := rfl
@[simp] theorem State.rxTry_dLx (s : State) : (s.rxTry).dLx = s.dLx := rfl
@[simp] theorem State.rxTry_dLy (s : State) : (s.rxTry).dLy = s.dLy := rfl
@[simp] theorem State.rxTry_dRx (s : State) : (s.rxTry).dRx = s.dRx := rfl
@[simp] theorem State.rxTry_dRy (s : State) : (s.rxTry).dRy = s.dRy := rfl
@[simp] theorem State.rxTry_dVnd (s : State) : (s.rxTry).dVnd = s.dVnd := rfl
@[simp] theorem State.rxTry_tbuf (s : State) : (s.rxTry).tbuf = s.tbuf := rfl
@[simp] theorem State.rxTry_tlen (s : State) : (s.rxTry).tlen = s.tlen := rfl
@[simp] theorem State.rxTry_status (s : State) : (s.rxTry).status = s.status := rfl
@[simp] theorem State.rxTry_ack (s : State) : (s.rxTry).ack = s.ack := rfl
@[simp] theorem State.rxTry_channel (s : State) : (s.rxTry).channel = s.channel ++ [.read s.rxAnswer] := rfl
@[simp] theorem State.rxTry_responses (s : State) : (s.rxTry).responses = s.responses := rfl
@[simp] theorem State.rxTry_hostCmds (s : State) : (s.rxTry).hostCmds = s.hostCmds := rfl
@[simp] theorem State.rxTry_rxTape (s : State) : (s.rxTry).rxTape = s.rxTape.tail := rfl
@[simp] theorem State.rxTry_rxDraws (s : State) : (s.rxTry).rxDraws = s.rxDraws + 1 := rfl

/-! ### `State.txEmit` -/

@[simp] theorem State.txEmit_btn (s : State) (f : List Byte) : (s.txEmit f).btn = s.btn := rfl
@[simp] theorem State.txEmit_dpad (s : State) (f : List Byte) : (s.txEmit f).dpad = s.dpad := rfl
@[simp] theorem State.txEmit_lx (s : State) (f : List Byte) : (s.txEmit f).lx = s.lx := rfl
@[simp] theorem State.txEmit_ly (s : State) (f : List Byte) : (s.txEmit f).ly = s.ly := rfl
@[simp] theorem State.txEmit_rx (s : State) (f : List Byte) : (s.txEmit f).rx = s.rx := rfl
@[simp] theorem State.txEmit_ry (s : State) (f : List Byte) : (s.txEmit f).ry = s.ry := rfl
@[simp] theorem State.txEmit_vnd (s : State) (f : List Byte) : (s.txEmit f).vnd = s.vnd := rfl
@[simp] theorem State.txEmit_crc (s : State) (f : List Byte) : (s.txEmit f).crc = s.crc := rfl
@[simp] theorem State.txEmit_frm (s : State) (f : List Byte) : (s.txEmit f).frm = s.frm := rfl
@[simp] theorem State.txEmit_flen (s : State) (f : List Byte) : (s.txEmit f).flen = s.flen := rfl
@[simp] theorem State.txEmit_dBtn (s : State) (f : List Byte) : (s.txEmit f).dBtn = s.dBtn := rfl
@[simp] theorem State.txEmit_dDpad (s : State) (f : List Byte) : (s.txEmit f).dDpad = s.dDpad := rfl
@[simp] theorem State.txEmit_dLx (s : State) (f : List Byte) : (s.txEmit f).dLx = s.dLx := rfl
@[simp] theorem State.txEmit_dLy (s : State) (f : List Byte) : (s.txEmit f).dLy = s.dLy := rfl
@[simp] theorem State.txEmit_dRx (s : State) (f : List Byte) : (s.txEmit f).dRx = s.dRx := rfl
@[simp] theorem State.txEmit_dRy (s : State) (f : List Byte) : (s.txEmit f).dRy = s.dRy := rfl
@[simp] theorem State.txEmit_dVnd (s : State) (f : List Byte) : (s.txEmit f).dVnd = s.dVnd := rfl
@[simp] theorem State.txEmit_tbuf (s : State) (f : List Byte) : (s.txEmit f).tbuf = s.tbuf := rfl
@[simp] theorem State.txEmit_tlen (s : State) (f : List Byte) : (s.txEmit f).tlen = s.tlen := rfl
@[simp] theorem State.txEmit_status (s : State) (f : List Byte) : (s.txEmit f).status = s.status := rfl
@[simp] theorem State.txEmit_ack (s : State) (f : List Byte) : (s.txEmit f).ack = s.ack := rfl
@[simp] theorem State.txEmit_channel (s : State) (f : List Byte) : (s.txEmit f).channel = s.channel ++ [.write f] := rfl
@[simp] theorem State.txEmit_responses (s : State) (f : List Byte) : (s.txEmit f).responses = s.responses := rfl
@[simp] theorem State.txEmit_hostCmds (s : State) (f : List Byte) : (s.txEmit f).hostCmds = s.hostCmds := rfl
@[simp] theorem State.txEmit_rxTape (s : State) (f : List Byte) : (s.txEmit f).rxTape = s.rxTape := rfl
@[simp] theorem State.txEmit_rxDraws (s : State) (f : List Byte) : (s.txEmit f).rxDraws = s.rxDraws := rfl

/-! ### `State.storeFrame` -/

@[simp] theorem State.storeFrame_btn (s : State) (f : Frame) : (s.storeFrame f).btn = s.btn := rfl
@[simp] theorem State.storeFrame_dpad (s : State) (f : Frame) : (s.storeFrame f).dpad = s.dpad := rfl
@[simp] theorem State.storeFrame_lx (s : State) (f : Frame) : (s.storeFrame f).lx = s.lx := rfl
@[simp] theorem State.storeFrame_ly (s : State) (f : Frame) : (s.storeFrame f).ly = s.ly := rfl
@[simp] theorem State.storeFrame_rx (s : State) (f : Frame) : (s.storeFrame f).rx = s.rx := rfl
@[simp] theorem State.storeFrame_ry (s : State) (f : Frame) : (s.storeFrame f).ry = s.ry := rfl
@[simp] theorem State.storeFrame_vnd (s : State) (f : Frame) : (s.storeFrame f).vnd = s.vnd := rfl
@[simp] theorem State.storeFrame_crc (s : State) (f : Frame) : (s.storeFrame f).crc = f.check := rfl
@[simp] theorem State.storeFrame_frm (s : State) (f : Frame) : (s.storeFrame f).frm = f := rfl
@[simp] theorem State.storeFrame_flen (s : State) (f : Frame) : (s.storeFrame f).flen = fullCount := rfl
@[simp] theorem State.storeFrame_dBtn (s : State) (f : Frame) : (s.storeFrame f).dBtn = s.dBtn := rfl
@[simp] theorem State.storeFrame_dDpad (s : State) (f : Frame) : (s.storeFrame f).dDpad = s.dDpad := rfl
@[simp] theorem State.storeFrame_dLx (s : State) (f : Frame) : (s.storeFrame f).dLx = s.dLx := rfl
@[simp] theorem State.storeFrame_dLy (s : State) (f : Frame) : (s.storeFrame f).dLy = s.dLy := rfl
@[simp] theorem State.storeFrame_dRx (s : State) (f : Frame) : (s.storeFrame f).dRx = s.dRx := rfl
@[simp] theorem State.storeFrame_dRy (s : State) (f : Frame) : (s.storeFrame f).dRy = s.dRy := rfl
@[simp] theorem State.storeFrame_dVnd (s : State) (f : Frame) : (s.storeFrame f).dVnd = s.dVnd := rfl
@[simp] theorem State.storeFrame_tbuf (s : State) (f : Frame) : (s.storeFrame f).tbuf = s.tbuf := rfl
@[simp] theorem State.storeFrame_tlen (s : State) (f : Frame) : (s.storeFrame f).tlen = s.tlen := rfl
@[simp] theorem State.storeFrame_status (s : State) (f : Frame) : (s.storeFrame f).status = (s.setDecodeFlags false false false).status := rfl
@[simp] theorem State.storeFrame_ack (s : State) (f : Frame) : (s.storeFrame f).ack = s.ack := rfl
@[simp] theorem State.storeFrame_channel (s : State) (f : Frame) : (s.storeFrame f).channel = s.channel := rfl
@[simp] theorem State.storeFrame_responses (s : State) (f : Frame) : (s.storeFrame f).responses = s.responses := rfl
@[simp] theorem State.storeFrame_hostCmds (s : State) (f : Frame) : (s.storeFrame f).hostCmds = s.hostCmds := rfl
@[simp] theorem State.storeFrame_rxTape (s : State) (f : Frame) : (s.storeFrame f).rxTape = s.rxTape := rfl
@[simp] theorem State.storeFrame_rxDraws (s : State) (f : Frame) : (s.storeFrame f).rxDraws = s.rxDraws := rfl

/-! ### `State.recordAck` -/

@[simp] theorem State.recordAck_btn (s : State) (a : Option Byte) : (s.recordAck a).btn = s.btn := rfl
@[simp] theorem State.recordAck_dpad (s : State) (a : Option Byte) : (s.recordAck a).dpad = s.dpad := rfl
@[simp] theorem State.recordAck_lx (s : State) (a : Option Byte) : (s.recordAck a).lx = s.lx := rfl
@[simp] theorem State.recordAck_ly (s : State) (a : Option Byte) : (s.recordAck a).ly = s.ly := rfl
@[simp] theorem State.recordAck_rx (s : State) (a : Option Byte) : (s.recordAck a).rx = s.rx := rfl
@[simp] theorem State.recordAck_ry (s : State) (a : Option Byte) : (s.recordAck a).ry = s.ry := rfl
@[simp] theorem State.recordAck_vnd (s : State) (a : Option Byte) : (s.recordAck a).vnd = s.vnd := rfl
@[simp] theorem State.recordAck_crc (s : State) (a : Option Byte) : (s.recordAck a).crc = s.crc := rfl
@[simp] theorem State.recordAck_frm (s : State) (a : Option Byte) : (s.recordAck a).frm = s.frm := rfl
@[simp] theorem State.recordAck_flen (s : State) (a : Option Byte) : (s.recordAck a).flen = s.flen := rfl
@[simp] theorem State.recordAck_dBtn (s : State) (a : Option Byte) : (s.recordAck a).dBtn = s.dBtn := rfl
@[simp] theorem State.recordAck_dDpad (s : State) (a : Option Byte) : (s.recordAck a).dDpad = s.dDpad := rfl
@[simp] theorem State.recordAck_dLx (s : State) (a : Option Byte) : (s.recordAck a).dLx = s.dLx := rfl
@[simp] theorem State.recordAck_dLy (s : State) (a : Option Byte) : (s.recordAck a).dLy = s.dLy := rfl
@[simp] theorem State.recordAck_dRx (s : State) (a : Option Byte) : (s.recordAck a).dRx = s.dRx := rfl
@[simp] theorem State.recordAck_dRy (s : State) (a : Option Byte) : (s.recordAck a).dRy = s.dRy := rfl
@[simp] theorem State.recordAck_dVnd (s : State) (a : Option Byte) : (s.recordAck a).dVnd = s.dVnd := rfl
@[simp] theorem State.recordAck_tbuf (s : State) (a : Option Byte) : (s.recordAck a).tbuf = s.tbuf := rfl
@[simp] theorem State.recordAck_tlen (s : State) (a : Option Byte) : (s.recordAck a).tlen = s.tlen := rfl
@[simp] theorem State.recordAck_status (s : State) (a : Option Byte) : (s.recordAck a).status = statusWith (statusWith s.status .ackv a.isSome) .ackm (ackMismatch a) := rfl
@[simp] theorem State.recordAck_ack (s : State) (a : Option Byte) : (s.recordAck a).ack = a.getD 0x00#8 := rfl
@[simp] theorem State.recordAck_channel (s : State) (a : Option Byte) : (s.recordAck a).channel = s.channel := rfl
@[simp] theorem State.recordAck_responses (s : State) (a : Option Byte) : (s.recordAck a).responses = s.responses := rfl
@[simp] theorem State.recordAck_hostCmds (s : State) (a : Option Byte) : (s.recordAck a).hostCmds = s.hostCmds := rfl
@[simp] theorem State.recordAck_rxTape (s : State) (a : Option Byte) : (s.recordAck a).rxTape = s.rxTape := rfl
@[simp] theorem State.recordAck_rxDraws (s : State) (a : Option Byte) : (s.recordAck a).rxDraws = s.rxDraws := rfl

/-! ### `State.putFrameByte` -/

@[simp] theorem State.putFrameByte_btn (s : State) (b : Byte) : (s.putFrameByte b).btn = s.btn := rfl
@[simp] theorem State.putFrameByte_dpad (s : State) (b : Byte) : (s.putFrameByte b).dpad = s.dpad := rfl
@[simp] theorem State.putFrameByte_lx (s : State) (b : Byte) : (s.putFrameByte b).lx = s.lx := rfl
@[simp] theorem State.putFrameByte_ly (s : State) (b : Byte) : (s.putFrameByte b).ly = s.ly := rfl
@[simp] theorem State.putFrameByte_rx (s : State) (b : Byte) : (s.putFrameByte b).rx = s.rx := rfl
@[simp] theorem State.putFrameByte_ry (s : State) (b : Byte) : (s.putFrameByte b).ry = s.ry := rfl
@[simp] theorem State.putFrameByte_vnd (s : State) (b : Byte) : (s.putFrameByte b).vnd = s.vnd := rfl
@[simp] theorem State.putFrameByte_crc (s : State) (b : Byte) : (s.putFrameByte b).crc = s.crc := rfl
@[simp] theorem State.putFrameByte_frm (s : State) (b : Byte) : (s.putFrameByte b).frm = s.frm.put s.flen.toNat b := rfl
@[simp] theorem State.putFrameByte_flen (s : State) (b : Byte) : (s.putFrameByte b).flen = s.flen + 1#4 := rfl
@[simp] theorem State.putFrameByte_dBtn (s : State) (b : Byte) : (s.putFrameByte b).dBtn = s.dBtn := rfl
@[simp] theorem State.putFrameByte_dDpad (s : State) (b : Byte) : (s.putFrameByte b).dDpad = s.dDpad := rfl
@[simp] theorem State.putFrameByte_dLx (s : State) (b : Byte) : (s.putFrameByte b).dLx = s.dLx := rfl
@[simp] theorem State.putFrameByte_dLy (s : State) (b : Byte) : (s.putFrameByte b).dLy = s.dLy := rfl
@[simp] theorem State.putFrameByte_dRx (s : State) (b : Byte) : (s.putFrameByte b).dRx = s.dRx := rfl
@[simp] theorem State.putFrameByte_dRy (s : State) (b : Byte) : (s.putFrameByte b).dRy = s.dRy := rfl
@[simp] theorem State.putFrameByte_dVnd (s : State) (b : Byte) : (s.putFrameByte b).dVnd = s.dVnd := rfl
@[simp] theorem State.putFrameByte_tbuf (s : State) (b : Byte) : (s.putFrameByte b).tbuf = s.tbuf := rfl
@[simp] theorem State.putFrameByte_tlen (s : State) (b : Byte) : (s.putFrameByte b).tlen = s.tlen := rfl
@[simp] theorem State.putFrameByte_status (s : State) (b : Byte) : (s.putFrameByte b).status = s.status := rfl
@[simp] theorem State.putFrameByte_ack (s : State) (b : Byte) : (s.putFrameByte b).ack = s.ack := rfl
@[simp] theorem State.putFrameByte_channel (s : State) (b : Byte) : (s.putFrameByte b).channel = s.channel := rfl
@[simp] theorem State.putFrameByte_responses (s : State) (b : Byte) : (s.putFrameByte b).responses = s.responses := rfl
@[simp] theorem State.putFrameByte_hostCmds (s : State) (b : Byte) : (s.putFrameByte b).hostCmds = s.hostCmds := rfl
@[simp] theorem State.putFrameByte_rxTape (s : State) (b : Byte) : (s.putFrameByte b).rxTape = s.rxTape := rfl
@[simp] theorem State.putFrameByte_rxDraws (s : State) (b : Byte) : (s.putFrameByte b).rxDraws = s.rxDraws := rfl

/-! ### `State.unpack` -/

@[simp] theorem State.unpack_btn (s : State) (p : PacketFields) : (s.unpack p).btn = s.btn := rfl
@[simp] theorem State.unpack_dpad (s : State) (p : PacketFields) : (s.unpack p).dpad = s.dpad := rfl
@[simp] theorem State.unpack_lx (s : State) (p : PacketFields) : (s.unpack p).lx = s.lx := rfl
@[simp] theorem State.unpack_ly (s : State) (p : PacketFields) : (s.unpack p).ly = s.ly := rfl
@[simp] theorem State.unpack_rx (s : State) (p : PacketFields) : (s.unpack p).rx = s.rx := rfl
@[simp] theorem State.unpack_ry (s : State) (p : PacketFields) : (s.unpack p).ry = s.ry := rfl
@[simp] theorem State.unpack_vnd (s : State) (p : PacketFields) : (s.unpack p).vnd = s.vnd := rfl
@[simp] theorem State.unpack_crc (s : State) (p : PacketFields) : (s.unpack p).crc = s.crc := rfl
@[simp] theorem State.unpack_frm (s : State) (p : PacketFields) : (s.unpack p).frm = s.frm := rfl
@[simp] theorem State.unpack_flen (s : State) (p : PacketFields) : (s.unpack p).flen = s.flen := rfl
@[simp] theorem State.unpack_dBtn (s : State) (p : PacketFields) : (s.unpack p).dBtn = p.mask := rfl
@[simp] theorem State.unpack_dDpad (s : State) (p : PacketFields) : (s.unpack p).dDpad = p.code := rfl
@[simp] theorem State.unpack_dLx (s : State) (p : PacketFields) : (s.unpack p).dLx = p.lx := rfl
@[simp] theorem State.unpack_dLy (s : State) (p : PacketFields) : (s.unpack p).dLy = p.ly := rfl
@[simp] theorem State.unpack_dRx (s : State) (p : PacketFields) : (s.unpack p).dRx = p.rx := rfl
@[simp] theorem State.unpack_dRy (s : State) (p : PacketFields) : (s.unpack p).dRy = p.ry := rfl
@[simp] theorem State.unpack_dVnd (s : State) (p : PacketFields) : (s.unpack p).dVnd = p.vendor := rfl
@[simp] theorem State.unpack_tbuf (s : State) (p : PacketFields) : (s.unpack p).tbuf = s.tbuf := rfl
@[simp] theorem State.unpack_tlen (s : State) (p : PacketFields) : (s.unpack p).tlen = s.tlen := rfl
@[simp] theorem State.unpack_status (s : State) (p : PacketFields) : (s.unpack p).status = s.status := rfl
@[simp] theorem State.unpack_ack (s : State) (p : PacketFields) : (s.unpack p).ack = s.ack := rfl
@[simp] theorem State.unpack_channel (s : State) (p : PacketFields) : (s.unpack p).channel = s.channel := rfl
@[simp] theorem State.unpack_responses (s : State) (p : PacketFields) : (s.unpack p).responses = s.responses := rfl
@[simp] theorem State.unpack_hostCmds (s : State) (p : PacketFields) : (s.unpack p).hostCmds = s.hostCmds := rfl
@[simp] theorem State.unpack_rxTape (s : State) (p : PacketFields) : (s.unpack p).rxTape = s.rxTape := rfl
@[simp] theorem State.unpack_rxDraws (s : State) (p : PacketFields) : (s.unpack p).rxDraws = s.rxDraws := rfl

/-! ### `State.putChar` -/

@[simp] theorem State.putChar_btn (s : State) (c : Byte) : (s.putChar c).btn = s.btn := rfl
@[simp] theorem State.putChar_dpad (s : State) (c : Byte) : (s.putChar c).dpad = s.dpad := rfl
@[simp] theorem State.putChar_lx (s : State) (c : Byte) : (s.putChar c).lx = s.lx := rfl
@[simp] theorem State.putChar_ly (s : State) (c : Byte) : (s.putChar c).ly = s.ly := rfl
@[simp] theorem State.putChar_rx (s : State) (c : Byte) : (s.putChar c).rx = s.rx := rfl
@[simp] theorem State.putChar_ry (s : State) (c : Byte) : (s.putChar c).ry = s.ry := rfl
@[simp] theorem State.putChar_vnd (s : State) (c : Byte) : (s.putChar c).vnd = s.vnd := rfl
@[simp] theorem State.putChar_crc (s : State) (c : Byte) : (s.putChar c).crc = s.crc := rfl
@[simp] theorem State.putChar_frm (s : State) (c : Byte) : (s.putChar c).frm = s.frm := rfl
@[simp] theorem State.putChar_flen (s : State) (c : Byte) : (s.putChar c).flen = s.flen := rfl
@[simp] theorem State.putChar_dBtn (s : State) (c : Byte) : (s.putChar c).dBtn = s.dBtn := rfl
@[simp] theorem State.putChar_dDpad (s : State) (c : Byte) : (s.putChar c).dDpad = s.dDpad := rfl
@[simp] theorem State.putChar_dLx (s : State) (c : Byte) : (s.putChar c).dLx = s.dLx := rfl
@[simp] theorem State.putChar_dLy (s : State) (c : Byte) : (s.putChar c).dLy = s.dLy := rfl
@[simp] theorem State.putChar_dRx (s : State) (c : Byte) : (s.putChar c).dRx = s.dRx := rfl
@[simp] theorem State.putChar_dRy (s : State) (c : Byte) : (s.putChar c).dRy = s.dRy := rfl
@[simp] theorem State.putChar_dVnd (s : State) (c : Byte) : (s.putChar c).dVnd = s.dVnd := rfl
@[simp] theorem State.putChar_tbuf (s : State) (c : Byte) : (s.putChar c).tbuf = s.tbuf.set s.tlen.toNat c := rfl
@[simp] theorem State.putChar_tlen (s : State) (c : Byte) : (s.putChar c).tlen = s.tlen + 1#16 := rfl
@[simp] theorem State.putChar_status (s : State) (c : Byte) : (s.putChar c).status = s.status := rfl
@[simp] theorem State.putChar_ack (s : State) (c : Byte) : (s.putChar c).ack = s.ack := rfl
@[simp] theorem State.putChar_channel (s : State) (c : Byte) : (s.putChar c).channel = s.channel := rfl
@[simp] theorem State.putChar_responses (s : State) (c : Byte) : (s.putChar c).responses = s.responses := rfl
@[simp] theorem State.putChar_hostCmds (s : State) (c : Byte) : (s.putChar c).hostCmds = s.hostCmds := rfl
@[simp] theorem State.putChar_rxTape (s : State) (c : Byte) : (s.putChar c).rxTape = s.rxTape := rfl
@[simp] theorem State.putChar_rxDraws (s : State) (c : Byte) : (s.putChar c).rxDraws = s.rxDraws := rfl

end Sys2Proof.Machine
end

