-- ==== Sys2Proof/Laws/Ops.lean ====
section
/-! SUPPORT. One spec lemma per shared operation over the flags, the channel and the buffers, for the provers to cite instead of unfolding. -/

namespace Sys2Proof.Machine

/-! ### STATUS -/

/-- Writing a flag gives that flag the value and leaves the seven others. -/
theorem statusWith_bit (st : Byte) (f g : Flag) (v : Bool) :
    (statusWith st f v).getLsbD g.bit = if g = f then v else st.getLsbD g.bit := by
  cases f <;> cases g <;> cases v <;> simp [statusWith, Flag.mask, Flag.bit]

theorem State.flag_eq (s : State) (f : Flag) : s.flag f = s.status.getLsbD f.bit := rfl

theorem State.flag_setFlag (s : State) (f g : Flag) (v : Bool) :
    (s.setFlag f v).flag g = if g = f then v else s.flag g := statusWith_bit ..

/-- What the three decode flags and the five others are after `setDecodeFlags`. -/
theorem State.flag_setDecodeFlags (s : State) (a b c : Bool) (g : Flag) :
    (s.setDecodeFlags a b c).flag g =
      match g with
      | .dvalid => a
      | .crcerr => b
      | .dperr => c
      | .unk | .nasc | .tovf | .ackv | .ackm => s.flag g := by
  unfold State.setDecodeFlags
  simp only [State.flag_setFlag]
  cases g <;> rfl

/-- What the flags are after an ack read is recorded. -/
theorem State.flag_recordAck (s : State) (a : Option Byte) (g : Flag) :
    (s.recordAck a).flag g =
      match g with
      | .ackv => a.isSome
      | .ackm => ackMismatch a
      | .unk | .nasc | .tovf | .dvalid | .crcerr | .dperr => s.flag g := by
  unfold State.recordAck
  simp only [State.flag_setFlag]
  cases g <;> rfl

/-- A STATUS byte is its eight flags. -/
theorem status_ext {a b : Byte} (h : ∀ f : Flag, a.getLsbD f.bit = b.getLsbD f.bit) : a = b := by
  apply BitVec.eq_of_getLsbD_eq
  intro i hi
  have := h .unk; have := h .nasc; have := h .tovf; have := h .dvalid
  have := h .crcerr; have := h .dperr; have := h .ackv; have := h .ackm
  interval_cases i <;> assumption

/-! ### The updates that leave the flags alone -/

@[simp] theorem State.flag_respondWith (s : State) (c : RespCode) (d : Word) (f : Flag) :
    (s.respondWith c d).flag f = s.flag f := rfl

@[simp] theorem State.flag_respond (s : State) (c : RespCode) (f : Flag) : (s.respond c).flag f = s.flag f := rfl

@[simp] theorem State.flag_takeCommand (s : State) (f : Flag) : s.takeCommand.flag f = s.flag f := rfl

@[simp] theorem State.flag_present (s : State) (w : List Word) (f : Flag) : (s.present w).flag f = s.flag f := rfl

@[simp] theorem State.flag_rxTry (s : State) (f : Flag) : s.rxTry.flag f = s.flag f := rfl

@[simp] theorem State.flag_txEmit (s : State) (bytes : List Byte) (f : Flag) : (s.txEmit bytes).flag f = s.flag f := rfl

@[simp] theorem State.flag_putFrameByte (s : State) (b : Byte) (f : Flag) : (s.putFrameByte b).flag f = s.flag f := rfl

@[simp] theorem State.flag_putChar (s : State) (c : Byte) (f : Flag) : (s.putChar c).flag f = s.flag f := rfl

@[simp] theorem State.flag_unpack (s : State) (p : PacketFields) (f : Flag) : (s.unpack p).flag f = s.flag f := rfl

/-- What the flags are after a frame is stored: the three decode flags 0. -/
theorem State.flag_storeFrame (s : State) (f : Frame) (g : Flag) :
    (s.storeFrame f).flag g =
      match g with
      | .dvalid | .crcerr | .dperr => false
      | .unk | .nasc | .tovf | .ackv | .ackm => s.flag g := by
  unfold State.storeFrame
  rw [State.flag_setDecodeFlags]
  cases g <;> rfl

/-! ### The channel -/

theorem framesOf_append (a b : List ChannelEvent) : framesOf (a ++ b) = framesOf a ++ framesOf b := by
  induction a with
  | nil => rfl
  | cons e rest ih => cases e <;> simp [framesOf, ih]

/-- A read adds no frame to `TX`. -/
theorem State.tx_rxTry (s : State) : s.rxTry.tx = s.tx := by
  simp [State.tx, framesOf_append, framesOf]

/-- A transmit adds exactly its frame at the end of `TX`. -/
theorem State.tx_txEmit (s : State) (bytes : List Byte) : (s.txEmit bytes).tx = s.tx ++ [bytes] := by
  simp [State.tx, framesOf_append, framesOf]

/-- The next answer is the one the tape names. -/
theorem State.rxAnswer_cons (s : State) {a : Option Byte} {rest : List (Option Byte)} (h : s.rxTape = a :: rest) :
    s.rxAnswer = a := by
  simp [State.rxAnswer, h]

/-! ### The buffers -/

/-- A byte put at an index reads back there and nowhere else; beyond the ninth byte nothing is written. -/
theorem Frame.get_put (f : Frame) (i : Nat) (b : Byte) (j : Fin 9) :
    (f.put i b).get j = if j.val = i then b else f.get j := by
  by_cases h : i < 9
  · interval_cases i <;> fin_cases j <;> rfl
  · have h1 : j.val ≠ i := by omega
    simp only [h1, if_false]
    unfold Frame.put
    split <;> first | omega | rfl

/-- Storing a character keeps the buffer's size. -/
@[simp] theorem State.textMax_putChar (s : State) (c : Byte) : (s.putChar c).textMax = s.textMax := by
  simp [State.textMax]

/-- A pushed LogicalInput touches only `BTN`, `DPAD` or `UNK`. -/
theorem State.applyInput_eq (s : State) (li : LogicalInput) :
    s.applyInput li =
      { s with btn := (s.applyInput li).btn, dpad := (s.applyInput li).dpad, status := (s.applyInput li).status } := by
  cases li <;> rfl

/-! ### Frames -/

/-- The sizes of 00 R7 as numbers. -/
@[simp] theorem FRAME_LEN_eq : Config.FRAME_LEN = 9 := rfl

@[simp] theorem PAYLOAD_LEN_eq : Config.PAYLOAD_LEN = 8 := rfl

@[simp] theorem N_BUTTONS_eq : Config.N_BUTTONS = 16 := rfl

@[simp] theorem N_DPAD_eq : Config.N_DPAD = 9 := rfl

/-- A full frame buffer's count is nine. -/
@[simp] theorem fullCount_eq : fullCount = 9#4 := rfl

/-- The legal dpad codes are 0x00 to 0x08. -/
@[simp] theorem legalDpadCode_eq (b : Byte) : legalDpadCode b = decide (b.toNat ≤ 0x08) := by
  simp [legalDpadCode, Nat.lt_succ_iff]

theorem Frame.payload_eq (f : Frame) :
    f.payload = [f.buttonsLsb, f.buttonsMsb, f.dpadCode, f.lx, f.ly, f.rx, f.ry, f.vendor] := rfl

theorem Frame.bytes_eq (f : Frame) : f.bytes = f.payload ++ [f.check] := rfl

/-- The source's decode with its dpad test as a number (42 R120). -/
theorem decodePacket_eq (f : Frame) :
    decodePacket f =
      if f.check ≠ crc8 f.payload then .corrupt
      else if 0x08 < f.dpadCode.toNat then .badDpadCode
      else .fields f.fields := by
  simp [decodePacket]

/-- The judgement of a full buffer with its dpad test as a number (42 R124). -/
theorem State.judgeFrame_eq (s : State) :
    s.judgeFrame =
      let u : State := { s with crc := crc8 s.frm.payload }
      if crc8 s.frm.payload ≠ s.frm.check then (u.setDecodeFlags false true false).respond .checksumError
      else if 0x08 < s.frm.dpadCode.toNat then (u.setDecodeFlags false false true).respond .badDpadCode
      else ((u.unpack s.frm.fields).setDecodeFlags true false false).respond .ok := by
  simp [State.judgeFrame]

theorem PacketFields.assemble_payload (p : PacketFields) : p.assemble.payload = p.payload := rfl

theorem PacketFields.assemble_bytes (p : PacketFields) : p.assemble.bytes = p.payload ++ [crc8 p.payload] := rfl

end Sys2Proof.Machine
end

