-- ==== Sys2Proof/Laws/PerInstr.lean ====
section
/-! SUPPORT. The family EncodeFields, one lemma per constructor: the two fields of a command's word are its opcode and its operand byte (30 R70, R88). -/

namespace Sys2Proof.Laws.EncodeFields

/-- The fields of the command's word. -/
def Statement (i : Instr) : Prop := wordOp (encode i) = i.opcode ∧ wordArg (encode i) = i.operand

/-- The fields of a word made of two bytes. -/
theorem fields_append (op arg : Byte) : wordOp (op ++ arg) = op ∧ wordArg (op ++ arg) = arg := by
  have bit (i : Nat) : BitVec.getLsbD (op ++ arg : Word) i = if i < 8 then arg.getLsbD i else op.getLsbD (i - 8) := by
    rw [show (op ++ arg : Word) = (op ++ arg : BitVec (8 + 8)) from rfl, BitVec.getLsbD_append]
  constructor <;> apply BitVec.eq_of_getLsbD_eq <;> intro i hi <;> simp [wordOp, wordArg, bit, hi]

theorem nop : Statement .nop := fields_append _ _
theorem clr : Statement .clr := fields_append _ _
theorem push (li : LogicalInput) : Statement (.push li) := fields_append _ _
theorem setlx (v : Byte) : Statement (.setlx v) := fields_append _ _
theorem setly (v : Byte) : Statement (.setly v) := fields_append _ _
theorem setrx (v : Byte) : Statement (.setrx v) := fields_append _ _
theorem setry (v : Byte) : Statement (.setry v) := fields_append _ _
theorem setvnd (v : Byte) : Statement (.setvnd v) := fields_append _ _
theorem emit : Statement .emit := fields_append _ _
theorem crcinit : Statement .crcinit := fields_append _ _
theorem crcbyte (b : Byte) : Statement (.crcbyte b) := fields_append _ _
theorem dbeg : Statement .dbeg := fields_append _ _
theorem dbyte (b : Byte) : Statement (.dbyte b) := fields_append _ _
theorem dchk : Statement .dchk := fields_append _ _
theorem tclr : Statement .tclr := fields_append _ _
theorem tchr (c : Byte) : Statement (.tchr c) := fields_append _ _
theorem tsend : Statement .tsend := fields_append _ _
theorem rd (r : RegSel) : Statement (.rd r) := fields_append _ _

end Sys2Proof.Laws.EncodeFields
end

