-- ==== Sys2Proof/Tests/Slice0.lean ====
section
/-! SUPPORT. The model's own tests. Expected values are the spec's: vectors V1 to V23 and programs P1 to P6 of 95, the examples inside the rules, and the worked words of 30 R88. The second half shows, for each statement of Obligations.lean that has hypotheses, a concrete state and operands that meet them, one per clause and at the ends of its range. -/

namespace Sys2Proof.Tests

open Sys2Proof.Machine

/-! ### Helpers -/

/-- A block after reset whose text buffer has four bytes. -/
def small : State := State.resetWith 4

/-- The next state of an outcome. -/
def after (o : Host.Outcome State Fault Refusal) : Option State :=
  match o with
  | .next t => some t
  | .fault _ => none
  | .refused _ => none

/-- The last response of a state, as its code's number and its data. -/
def lastResponse (s : Option State) : Option (Byte × Word) :=
  (s.bind fun t => t.responses.getLast?).map fun r => (r.code.number, r.data)

/-- `small` with nine bytes in the frame buffer. -/
def loaded (f : Frame) : State := { small with frm := f, flen := 9#4 }

/-- The frame of vector V4: A and DPAD_R. -/
def frameV4 : Frame := ⟨0x00#8, 0x04#8, 0x02#8, 0x80#8, 0x80#8, 0x80#8, 0x80#8, 0x00#8, 0x3C#8⟩

/-- The frame of vector V21 whose checksum is right and whose dpad code is 0x09. -/
def frameBadDpad : Frame := ⟨0x00#8, 0x00#8, 0x09#8, 0x80#8, 0x80#8, 0x80#8, 0x80#8, 0x00#8, 0x7D#8⟩

/-- The frame of vector V21 whose checksum byte is corrupted. -/
def frameCorrupt : Frame := ⟨0x00#8, 0x00#8, 0x08#8, 0x80#8, 0x80#8, 0x80#8, 0x80#8, 0x00#8, 0x55#8⟩

/-! ### Decoding: every opcode of 30 R72 written out bit by bit -/

theorem test_decode_system :
    decode 0b0000000000000000#16 = .command .nop ∧ decode 0b0100000000001000#16 = .command (.rd (.reg .status)) := by decide

theorem test_decode_encode_side :
    decode 0b0000000100000000#16 = .command .clr ∧ decode 0b0000001000010010#16 = .command (.push (.dpad .right)) ∧
    decode 0b0000001111111111#16 = .command (.setlx 0xFF#8) ∧ decode 0b0000010000000001#16 = .command (.setly 0x01#8) ∧
    decode 0b0000010110000000#16 = .command (.setrx 0x80#8) ∧ decode 0b0000011001000000#16 = .command (.setry 0x40#8) ∧
    decode 0b0000011110100101#16 = .command (.setvnd 0xA5#8) ∧ decode 0b0000100000000000#16 = .command .emit := by decide

theorem test_decode_checksum :
    decode 0b0001000000000000#16 = .command .crcinit ∧ decode 0b0001000100000001#16 = .command (.crcbyte 0x01#8) := by decide

theorem test_decode_decode_side :
    decode 0b0010000000000000#16 = .command .dbeg ∧ decode 0b0010000111000000#16 = .command (.dbyte 0xC0#8) ∧
    decode 0b0010001000000000#16 = .command .dchk := by decide

theorem test_decode_display :
    decode 0b0011000000000000#16 = .command .tclr ∧ decode 0b0011000101101000#16 = .command (.tchr 0x68#8) ∧
    decode 0b0011001000000000#16 = .command .tsend := by decide

/-- V23: words that are no command. -/
theorem test_decode_illegal :
    decode 0x0001#16 = .illegal (.nonzeroOperand 0x00#8 0x01#8) ∧ decode 0x0801#16 = .illegal (.nonzeroOperand 0x08#8 0x01#8) ∧
    decode 0x0900#16 = .illegal (.unassignedOpcode 0x09#8) ∧ decode 0xFFFF#16 = .illegal (.unassignedOpcode 0xFF#8) := by decide

/-- V15: Button L and direction L are different operands. -/
theorem test_decode_L_is_not_dpad_L :
    decode 0x020C#16 = .command (.push (.button .lTrig)) ∧ decode 0x0216#16 = .command (.push (.dpad .left)) := by decide

/-- The table's numbering: the word of a 16-bit row, and bits above `nbits` are 0. -/
theorem test_decodeTableWord :
    decodeTableWord 16 0x3200 = some .tsend ∧ decodeTableWord 8 0x3201 = none ∧ decodeTableWord 16 0x3201 = none := by decide

/-! ### Well-formed terms: each check refuses an ill-formed one -/

theorem test_wf_refuses_named_code_as_unknown :
    (Instr.push (.unknown 0x05#8)).wf = false ∧ (Instr.push (.unknown 0x18#8)).wf = false ∧
    (Instr.push (.unknown 0x19#8)).wf = true ∧ (Instr.push (.unknown 0xFF#8)).wf = true := by decide

theorem test_wf_refuses_assigned_number_as_unassigned :
    (Instr.rd (.unassigned 0x00#8)).wf = false ∧ (Instr.rd (.unassigned 0x0B#8)).wf = false ∧
    (Instr.rd (.unassigned 0x10#8)).wf = false ∧ (Instr.rd (.unassigned 0x26#8)).wf = false ∧
    (Instr.rd (.unassigned 0x0C#8)).wf = true ∧ (Instr.rd (.unassigned 0x27#8)).wf = true := by decide

/-! ### The wire formats as functions -/

/-- V2, V8, V13. -/
theorem test_crc8 :
    crc8 [0x01#8] = 0x07#8 ∧ crc8 [0x80#8] = 0x89#8 ∧ crc8 [0xA1#8, 0xB2#8] = 0x1A#8 ∧
    crc8 [0x31#8, 0x32#8, 0x33#8, 0x34#8, 0x35#8, 0x36#8, 0x37#8, 0x38#8, 0x39#8] = 0xF4#8 := by decide +kernel

/-- V4, and V18's row with every field different. -/
theorem test_encodePacket :
    encodePacket [.button .a, .dpad .right] {} = some frameV4 ∧
    (encodePacket [.button .minus, .button .a, .dpad .upRight] ⟨0x10#8, 0x20#8, 0x30#8, 0x40#8, 0x55#8⟩).map Frame.bytes
      = some [0x01#8, 0x04#8, 0x01#8, 0x10#8, 0x20#8, 0x30#8, 0x40#8, 0x55#8, 0xA5#8] := by decide +kernel

/-- V21. -/
theorem test_decodePacket :
    decodePacket ⟨0xFF#8, 0xFF#8, 0x07#8, 0x00#8, 0xFF#8, 0x01#8, 0xFE#8, 0xA5#8, 0x4A#8⟩
      = .fields ⟨0xFFFF#16, 0x7#4, 0x00#8, 0xFF#8, 0x01#8, 0xFE#8, 0xA5#8⟩ ∧
    decodePacket frameBadDpad = .badDpadCode ∧ decodePacket frameCorrupt = .corrupt := by decide +kernel

/-- V9, V10. -/
theorem test_encodeDisplayText :
    encodeDisplayText [0x68#8, 0x65#8, 0x6C#8, 0x6C#8, 0x6F#8]
      = [0x31#8, 0x32#8, 0x33#8, 0x34#8, 0x35#8, 0x36#8, 0x37#8, 0x38#8, 0x39#8, 0x68#8, 0x65#8, 0x6C#8, 0x6C#8, 0x6F#8] ∧
    encodeDisplayText [] = [0x31#8, 0x32#8, 0x33#8, 0x34#8, 0x35#8, 0x36#8, 0x37#8, 0x38#8, 0x39#8, 0x20#8] := by decide

/-! ### One step per command -/

/-- V23: `NOP` from the reset state, its word placed as the host places it. -/
theorem test_nop_from_reset :
    after (step (State.reset.withFetchWord 16 0x0000)) = some { State.reset with responses := [⟨.ok, 0x0000#16⟩] } := rfl

/-- V23: `EMIT` with an operand does nothing and reads no ack. -/
theorem test_illegal_word :
    small.runWord 0x0801#16 = some { small with responses := [⟨.illegalCommand, 0x0000#16⟩] } := by decide

/-- R110's example. -/
theorem test_clr :
    (State.runWord { small with btn := 0x0400#16, dpad := 0x2#4, status := 0x01#8 } 0x0100#16).map
      (fun t => (t.btn, t.dpad, t.status)) = some (0x0000#16, 0x8#4, 0x00#8) := by decide

/-- V19: a Button is added to the mask already there. -/
theorem test_push_button :
    (State.runWord { small with btn := 0x0400#16 } 0x020C#16).map (fun t => t.btn) = some 0x1400#16 := by decide

/-- P2, command 3: an unknown code poisons the call. -/
theorem test_push_unknown :
    (State.runWord { small with btn := 0x0400#16 } 0x02FF#16).map (fun t => (t.btn, t.dpad, t.status)) = some (0x0400#16, 0x8#4, 0x01#8) ∧
    lastResponse (small.runWord 0x02FF#16) = some (0x02#8, 0x0000#16) := by decide

theorem test_setlx : (small.runWord 0x0300#16).map (fun t => (t.lx, t.ly, t.rx, t.ry)) = some (0x00#8, 0x80#8, 0x80#8, 0x80#8) := by decide

theorem test_setly : (small.runWord 0x04FF#16).map (fun t => (t.lx, t.ly, t.rx, t.ry)) = some (0x80#8, 0xFF#8, 0x80#8, 0x80#8) := by decide

theorem test_setrx : (small.runWord 0x0501#16).map (fun t => (t.lx, t.ly, t.rx, t.ry)) = some (0x80#8, 0x80#8, 0x01#8, 0x80#8) := by decide

theorem test_setry : (small.runWord 0x06FE#16).map (fun t => (t.lx, t.ly, t.rx, t.ry)) = some (0x80#8, 0x80#8, 0x80#8, 0xFE#8) := by decide

theorem test_setvnd : (small.runWord 0x07A5#16).map (fun t => t.vnd) = some 0xA5#8 := by decide

/-- V3, P6: the neutral frame, and an ack of 0x00 is a mismatch that arrived. -/
theorem test_emit_neutral :
    (State.runWord { small with rxTape := [some 0x00#8] } 0x0800#16).map (fun t => (t.tx, t.crc, t.flen, t.ack, t.status))
      = some ([[0x00#8, 0x00#8, 0x08#8, 0x80#8, 0x80#8, 0x80#8, 0x80#8, 0x00#8, 0x54#8]], 0x54#8, 9#4, 0x00#8, 0xC0#8) := by
  decide +kernel

/-- V20: the expected ack is no mismatch. -/
theorem test_emit_ack :
    (State.runWord { small with rxTape := [some 0x90#8] } 0x0800#16).map (fun t => (t.ack, t.status)) = some (0x90#8, 0x40#8) := by
  decide +kernel

theorem test_crcinit : (State.runWord { small with crc := 0x54#8 } 0x1000#16).map (fun t => t.crc) = some 0x00#8 := by decide

/-- V14: continuing without `CRCINIT`. -/
theorem test_crcbyte : (State.runWord { small with crc := 0x54#8 } 0x1154#16).map (fun t => t.crc) = some 0x00#8 := by decide +kernel

/-- P4, command 21: `DVALID` goes, `ACKV` stays, the bytes stay. -/
theorem test_dbeg :
    (State.runWord { loaded frameV4 with status := 0x48#8 } 0x2000#16).map (fun t => (t.flen, t.status, t.frm))
      = some (0#4, 0x40#8, frameV4) := by decide

/-- V21: a tenth byte is refused. -/
theorem test_dbyte_tenth :
    State.runWord (loaded frameV4) 0x2101#16 = some { loaded frameV4 with responses := [⟨.frameLength, 0x0000#16⟩] } := by decide

/-- R123: the ninth byte is the checksum byte. -/
theorem test_dbyte_ninth :
    (State.runWord { small with flen := 8#4 } 0x213C#16).map (fun t => (t.frm.check, t.frm.vendor, t.flen)) = some (0x3C#8, 0x00#8, 9#4) := by
  decide

/-- V21: a good frame. -/
theorem test_dchk_good :
    (State.runWord (loaded frameV4) 0x2200#16).map (fun t => (t.crc, t.status, t.dBtn, t.dDpad))
      = some (0x3C#8, 0x08#8, 0x0400#16, 0x2#4) := by decide +kernel

/-- V21: a valid checksum over dpad code 0x09. -/
theorem test_dchk_bad_dpad :
    (State.runWord (loaded frameBadDpad) 0x2200#16).map (fun t => (t.crc, t.status, t.dBtn)) = some (0x7D#8, 0x20#8, 0x0000#16) ∧
    lastResponse (State.runWord (loaded frameBadDpad) 0x2200#16) = some (0x05#8, 0x0000#16) := by decide +kernel

theorem test_tclr : (State.runWord { small with tlen := 2#16, status := 0x06#8 } 0x3000#16).map (fun t => (t.tlen, t.status)) = some (0#16, 0x00#8) := by
  decide

/-- V22: the first character of a text, from the reset state whatever TEXT_MAX is. -/
theorem test_tchr_from_reset : (after (step (State.reset.withFetchWord 16 0x3168))).map (fun t => (t.tlen, t.tbuf.head?)) = some (1#16, some 0x68#8) := by
  decide +kernel

/-- V22: with the text full, a byte above 0x7F is still reported as such. -/
theorem test_tchr_non_ascii_before_full :
    (State.runWord { small with tlen := 4#16, status := 0x04#8 } 0x31FF#16).map (fun t => t.status) = some 0x06#8 ∧
    lastResponse (State.runWord { small with tlen := 4#16 } 0x31FF#16) = some (0x07#8, 0x0000#16) := by decide

/-- V22: the empty text is one space. -/
theorem test_tsend_empty :
    (small.runWord 0x3200#16).map (fun t => (t.tx, t.tlen))
      = some ([[0x31#8, 0x32#8, 0x33#8, 0x34#8, 0x35#8, 0x36#8, 0x37#8, 0x38#8, 0x39#8, 0x20#8]], 0#16) := by decide

/-- V22: with both text flags set, `NON_ASCII` is answered. -/
theorem test_tsend_poisoned :
    State.runWord { small with status := 0x06#8 } 0x3200#16
      = some { small with status := 0x06#8, responses := [⟨.nonAscii, 0x0000#16⟩] } := by decide

/-- V23. -/
theorem test_rd :
    lastResponse (small.runWord 0x4021#16) = some (0x00#8, 0x0008#16) ∧ lastResponse (small.runWord 0x4002#16) = some (0x00#8, 0x0080#16) := by decide

/-- V23. -/
theorem test_rd_unassigned : lastResponse (small.runWord 0x400C#16) = some (0x09#8, 0x0000#16) := by decide

/-! ### The command syntax -/

/-- R88's words from their text. -/
theorem test_assemble_words :
    assembleWord "PUSH DPAD_R" = some 0x0212#16 ∧ assembleWord "crcbyte 0x01" = some 0x1101#16 ∧
    assembleWord "TCHR 'h'" = some 0x3168#16 ∧ assembleWord "RD STATUS ; a comment" = some 0x4008#16 := by decide +kernel

/-- R86: a bare L is the Button, and a name of neither family is an error. -/
theorem test_assemble_names : assembleWord "PUSH L" = some 0x020C#16 ∧ assembleWord "PUSH FOO" = none := by decide +kernel

/-- The model's choice (log entry 13): a quoted semicolon is a character, any other starts a comment (30 R85). -/
theorem test_assemble_quoted_semicolon :
    assembleWord "TCHR ';' ; a comment" = some 0x313B#16 ∧ assembleWord "TCHR ;';'" = none := by decide +kernel

/-! ### The link context -/

/-- V11: the Vanilla handshake. -/
theorem test_vanilla :
    (attempt .vanilla ⟨some 0xFF#8, some 0xCC#8, some 0x33#8⟩).2 = none ∧
    (attempt .vanilla ⟨some 0xFE#8, some 0xCC#8, some 0x33#8⟩).2 = some ⟨1, some 0xFE#8⟩ ∧
    (attempt .vanilla ⟨some 0xFF#8, some 0xCD#8, some 0x33#8⟩).2 = some ⟨2, some 0xCD#8⟩ ∧
    (attempt .vanilla ⟨some 0xFF#8, some 0xCC#8, none⟩).2 = some ⟨3, none⟩ := by decide

/-- V11: the Chocolate handshake. -/
theorem test_chocolate :
    (attempt .chocolate ⟨some 0xFF#8, some 0xEE#8, some 0x03#8⟩).2 = none ∧
    (attempt .chocolate ⟨some 0xFF#8, some 0xEE#8, none⟩).2 = some ⟨3, none⟩ := by decide

/-- R169: the start-up stops at the first success. -/
theorem test_startUp :
    (Session.startUp none [⟨none, none, none⟩, ⟨some 0xFF#8, some 0xCC#8, some 0x33#8⟩] Session.fresh).link = .ready ∧
    (Session.startUp (some 1) [⟨none, none, none⟩, ⟨some 0xFF#8, some 0xCC#8, some 0x33#8⟩] Session.fresh).link = .failed := by decide

/-- The model's choice (log entry 11): with a bound of 0 the one attempt still runs. -/
theorem test_startUp_bound_zero :
    (Session.startUp (some 0) [⟨some 0xFF#8, some 0xCC#8, some 0x33#8⟩] Session.fresh).link = .ready ∧
    (Session.startUp (some 0) [⟨none, none, none⟩] Session.fresh).link = .failed := by decide

/-- The neutral position of a quantizer is 128 (00 R8): one such quantizer is the identity on bytes. -/
theorem test_quantizer : (Quantizer.mk (0x80#8 : Byte) id rfl).quantize 0x00#8 = 0x00#8 := rfl

/-! ### Witnesses: command words and the step -/

theorem test_witness_DecodeOfEncode :
    (Instr.push (.unknown 0x19#8)).wf = true ∧ (Instr.push (.dpad .center)).wf = true ∧ (Instr.rd (.unassigned 0xFF#8)).wf = true ∧
    (Instr.rd (.reg (.frm 8))).wf = true ∧ Instr.emit.wf = true := by decide

theorem test_witness_EncodeOfDecode :
    decode 0x0218#16 = .command (.push (.dpad .center)) ∧ decode 0x0219#16 = .command (.push (.unknown 0x19#8)) ∧
    decode 0x4027#16 = .command (.rd (.unassigned 0x27#8)) := by decide

theorem test_witness_IllegalWords :
    (small.present [0x0900#16]).hostCmds = 0x0900#16 :: [] ∧ decode 0x0900#16 = .illegal (.unassignedOpcode 0x09#8) ∧
    (small.present [0x00FF#16, 0x0100#16]).hostCmds = 0x00FF#16 :: [0x0100#16] ∧
    decode 0x00FF#16 = .illegal (.nonzeroOperand 0x00#8 0xFF#8) := by decide

/-- For every `OperandRefused` clause, with the operand at both ends of its range. -/
theorem test_witness_OperandRefused :
    0x01#8 ≠ 0x00#8 ∧ (small.present [0x08#8 ++ 0x01#8]).hostCmds = (0x08#8 ++ 0x01#8) :: [] ∧
    0xFF#8 ≠ 0x00#8 ∧ (small.present [0x32#8 ++ 0xFF#8]).hostCmds = (0x32#8 ++ 0xFF#8) :: [] := by decide

theorem test_witness_StepRunsDecodedCommand :
    (small.present [0x0800#16]).hostCmds = 0x0800#16 :: [] ∧ decode 0x0800#16 = .command .emit := by decide

theorem test_witness_StepWaitsForCommand : small.hostCmds = [] := by decide

/-- A word that is a successful `RD`, one that is an `RD` of no register, and one that is no command. -/
theorem test_witness_OneResponsePerCommand :
    (small.present [0x4008#16]).hostCmds = 0x4008#16 :: [] ∧ decode 0x4008#16 = .command (.rd (.reg .status)) ∧
    (small.present [0x400C#16]).hostCmds = 0x400C#16 :: [] ∧ decode 0x400C#16 = .command (.rd (.unassigned 0x0C#8)) ∧
    (small.present [0x0900#16]).hostCmds = 0x0900#16 :: [] ∧ decode 0x0900#16 = .illegal (.unassignedOpcode 0x09#8) := by decide

theorem test_witness_PresentedWordsRunInOrder :
    (∀ i ∈ [Instr.clr, .push (.button .a)], i.wf = true) ∧
    ∃ t, runCommands [.clr, .push (.button .a)] (small.present [0x0800#16]) = .next t := ⟨by decide, _, rfl⟩

/-! ### Witnesses: the Checksum Engine -/

/-- Both sides of the test of the high bit. -/
theorem test_witness_ChecksumAlgorithm : 128 ≤ (0x80#8 : Byte).toNat ∧ ¬ 128 ≤ (0x7F#8 : Byte).toNat := by decide

theorem test_witness_ChecksumResidue : frameV4.check = crc8 frameV4.payload := by decide +kernel

theorem test_witness_ChecksumCatchesOneByte : (0x80#8 : Byte) ≠ 0x81#8 := by decide

/-! ### Witnesses: the encode side -/

/-- The ends of the three ranges of codes. -/
theorem test_witness_PushAddsInput :
    (0x00#8 : Byte).toNat ≤ 0x0F ∧ (0x0F#8 : Byte).toNat ≤ 0x0F ∧ 0x0F < (0x10#8 : Byte).toNat ∧ (0x10#8 : Byte).toNat ≤ 0x18 ∧
    0x0F < (0x18#8 : Byte).toNat ∧ (0x18#8 : Byte).toNat ≤ 0x18 ∧ 0x18 < (0x19#8 : Byte).toNat ∧ 0x18 < (0xFF#8 : Byte).toNat := by
  decide

/-- A poisoned call, one that is not, and the three kinds of answer to its ack read. -/
theorem test_witness_EmitSendsPacket :
    State.flag { small with status := 0x01#8 } .unk = true ∧ State.flag { small with status := 0xFE#8 } .unk = false ∧
    State.rxAnswer { small with rxTape := [some 0x90#8] } = some 0x90#8 ∧
    State.rxAnswer { small with rxTape := [some 0x91#8] } = some 0x91#8 ∧ State.rxAnswer { small with rxTape := [none] } = none := by
  decide

/-- An answer named, and none named. -/
theorem test_witness_AckReadTakesNextAnswer :
    small.flag .unk = false ∧ small.rxTape = [] ∧
    State.flag { small with rxTape := [some 0x90#8, none] } .unk = false ∧
    State.rxTape { small with rxTape := [some 0x90#8, none] } = some 0x90#8 :: [none] := by decide

theorem test_witness_AckNeverAltersTransmission : small.flag .unk = false := by decide

/-- The bits and codes at the ends of their tables; an unknown input; no direction; and two directions, the second the last. -/
theorem test_witness_GatherButtonsAndLastDirection :
    gather [.button .minus, .button .zr, .dpad .up] = some (0x8001#16, 0x0#4) ∧
    gather [.dpad .up, .dpad .center] = some (0x0000#16, 0x8#4) ∧ gather [.button .a, .unknown 0xFF#8] = none ∧
    gather [.button .a, .button .a] = some (0x0400#16, 0x8#4) ∧
    gather [.dpad .up, .dpad .right, .button .a] = some (0x0400#16, 0x2#4) ∧
    [LogicalInput.dpad .up, .dpad .right, .button .a] = [LogicalInput.dpad .up] ++ LogicalInput.dpad .right :: [.button .a] := by decide

theorem test_witness_no_direction : ∀ d, LogicalInput.dpad d ∉ [LogicalInput.button .a] := by intro d; simp

theorem test_witness_EncodeCallRefinesEncode :
    encodePacket [.button .a, .dpad .right] (EncodeArgs.analog {}) = some frameV4 := by decide +kernel

/-- A call whose setters stand among its inputs, one of them given twice, with another family's command between: V18's row of ZR with LX at 0x00. And a call with an unknown input. -/
theorem test_witness_EncodeCallInAnyOrder :
    Instr.clr ∉ [Instr.setlx 0x10#8, .push (.button .zr), .crcinit, .setlx 0x00#8] ∧
    Instr.emit ∉ [Instr.setlx 0x10#8, .push (.button .zr), .crcinit, .setlx 0x00#8] ∧
    (encodePacket (callInputs [.setlx 0x10#8, .push (.button .zr), .crcinit, .setlx 0x00#8])
      (callAnalog [.setlx 0x10#8, .push (.button .zr), .crcinit, .setlx 0x00#8])).map Frame.bytes
      = some [0x00#8, 0x80#8, 0x08#8, 0x00#8, 0x80#8, 0x80#8, 0x80#8, 0x00#8, 0x49#8] ∧
    encodePacket (callInputs [.push (.unknown 0x19#8)]) (callAnalog [.push (.unknown 0x19#8)]) = none := by decide +kernel

theorem test_witness_UnknownInputSendsNothing : encodePacket [.button .a, .unknown 0x19#8] (EncodeArgs.analog {}) = none := by decide

theorem test_witness_PressIsAPair :
    encodePacket [.button .a, .dpad .right] {} = some frameV4 ∧ encodePacket [.unknown 0xFF#8] {} = none := by decide +kernel

/-! ### Witnesses: the decode side -/

/-- A full buffer, one with room for a last byte, and an empty one. -/
theorem test_witness_DbyteStoresOrRefuses :
    (loaded frameV4).flen.toNat = 9 ∧ (State.flen { small with flen := 8#4 }).toNat < 9 ∧ small.flen.toNat < 9 := by decide

/-- The four outcomes of a check, the last two with the dpad code on either side of its limit. -/
theorem test_witness_DchkJudgesFrame :
    small.flen ≠ 9#4 ∧ (loaded frameCorrupt).flen = 9#4 ∧ crc8 frameCorrupt.payload ≠ frameCorrupt.check ∧
    crc8 frameBadDpad.payload = frameBadDpad.check ∧ 0x08 < frameBadDpad.dpadCode.toNat ∧
    crc8 frameV4.payload = frameV4.check ∧ ¬ 0x08 < frameV4.dpadCode.toNat := by decide +kernel

theorem test_witness_DecodeRecoversEncode :
    PacketFields.code ⟨0xFFFF#16, 0x8#4, 0x00#8, 0xFF#8, 0x01#8, 0xFE#8, 0xA5#8⟩ = 0x8#4 ∧ (0x8#4 : Nibble).toNat ≤ 8 ∧
    decodePacket frameV4 = .fields ⟨0x0400#16, 0x2#4, 0x80#8, 0x80#8, 0x80#8, 0x80#8, 0x00#8⟩ ∧
    encodePacket [.button .a, .dpad .right] {} = some frameV4 := by decide +kernel

/-- The three judgements of a frame given to the block. -/
theorem test_witness_DecodeCallRefinesDecode :
    decodePacket frameV4 = .fields ⟨0x0400#16, 0x2#4, 0x80#8, 0x80#8, 0x80#8, 0x80#8, 0x00#8⟩ ∧
    decodePacket frameCorrupt = .corrupt ∧ decodePacket frameBadDpad = .badDpadCode := by decide +kernel

theorem test_witness_DchkAfterEmitRecovers : small.flag .unk = false ∧ small.dpad.toNat ≤ 8 := by decide

/-! ### Witnesses: the display side -/

/-- A byte on either side of the ASCII limit, a buffer that is full, one with room for a last byte, and an empty one. -/
theorem test_witness_TchrGathersText :
    small.textMax ≤ 65535 ∧ 0x80 ≤ (0x80#8 : Byte).toNat ∧ ¬ 0x80 ≤ (0x7F#8 : Byte).toNat ∧
    (State.tlen { small with tlen := 4#16 }).toNat ≤ State.textMax { small with tlen := 4#16 } ∧
    (State.tlen { small with tlen := 4#16 }).toNat = State.textMax { small with tlen := 4#16 } ∧
    (State.tlen { small with tlen := 3#16 }).toNat ≤ State.textMax { small with tlen := 3#16 } ∧
    (State.tlen { small with tlen := 3#16 }).toNat ≠ State.textMax { small with tlen := 3#16 } ∧ small.tlen.toNat ≠ small.textMax := by
  decide

/-- The four outcomes of `TSEND`. -/
theorem test_witness_TsendSendsDisplayFrame :
    State.flag { small with status := 0x02#8 } .nasc = true ∧
    State.flag { small with status := 0x04#8 } .nasc = false ∧ State.flag { small with status := 0x04#8 } .tovf = true ∧
    small.flag .nasc = false ∧ small.flag .tovf = false ∧ small.tlen.toNat = 0 ∧ (State.tlen { small with tlen := 1#16 }).toNat ≠ 0 := by
  decide

/-- A text with a byte of 0x80, one byte too long, exactly as long as the buffer, and empty. -/
theorem test_witness_DisplayCallRefinesEncodeDisplayText :
    1 ≤ small.textMax ∧ small.textMax ≤ 65535 ∧ [0x7F#8, 0x80#8].any (fun c => !asciiByte c) = true ∧
    (List.replicate 5 0x7F#8).any (fun c => !asciiByte c) = false ∧ small.textMax < (List.replicate 5 (0x7F#8 : Byte)).length ∧
    ¬ small.textMax < (List.replicate 4 (0x7F#8 : Byte)).length ∧ ([] : List Byte).any (fun c => !asciiByte c) = false := by decide

theorem test_witness_SentinelCollidesWithNoPacket :
    (PacketFields.code ⟨0x3231#16, 0x8#4, 0x34#8, 0x35#8, 0x36#8, 0x37#8, 0x38#8⟩).toNat ≤ 8 ∧
    Frame.bytes ⟨0x31#8, 0x32#8, 0x33#8, 0x34#8, 0x35#8, 0x36#8, 0x37#8, 0x38#8, 0x39#8⟩ = Config.SENTINEL := by decide

/-! ### Witnesses: system commands and the whole block -/

/-- The ends of the ranges of numbers that no register has; the table's clause holds of every number the table lists. -/
theorem test_witness_RdReadsRegisterByNumber :
    (0x0C ≤ (0x0C#8 : Byte).toNat ∧ (0x0F#8 : Byte).toNat ≤ 0x0F) ∧ (0x19 ≤ (0x19#8 : Byte).toNat ∧ (0x1F#8 : Byte).toNat ≤ 0x1F) ∧
    0x27 ≤ (0x27#8 : Byte).toNat ∧ 0x27 ≤ (0xFF#8 : Byte).toNat ∧
    RegSel.ofNumber 0x0B#8 = .reg .tlen ∧ RegSel.ofNumber 0x10#8 = .reg (.frm 0) ∧ RegSel.ofNumber 0x18#8 = .reg (.frm 8) ∧
    RegSel.ofNumber 0x20#8 = .reg .dBtn ∧ RegSel.ofNumber 0x26#8 = .reg .dVnd := by decide

/-- A block that holds the frame of V4 found good, after an ack of 0x91, with a text of one character, about to be given `word`. -/
def busy (word : Word) : State :=
  { loaded frameV4 with
    status := 0xC8#8, ack := 0x91#8, dBtn := 0x0400#16, dDpad := 0x2#4, tbuf := [0x48#8, 0x00#8], tlen := 1#16
    channel := [.read (some 0x91#8), .write frameV4.bytes], hostCmds := [word] }

theorem test_witness_Inv : (busy 0x0800#16).Inv where
  dpad_legal := by decide
  dDpad_legal := by decide
  flen_legal := by decide
  textMax_legal := by decide
  tlen_legal := by decide
  tbuf_ascii := by decide
  dvalid_means := by decide +kernel
  crcerr_means := by decide
  dperr_means := by decide
  ackm_means := by decide
  ack_none := by decide

/-- A step from a state that meets the invariant and has sent only good frames. -/
theorem test_witness_InvKept : (busy 0x0800#16).Inv ∧ ∃ t, step (busy 0x0800#16) = .next t := ⟨test_witness_Inv, _, rfl⟩

theorem test_witness_SentFramesWellFormed :
    (busy 0x0800#16).Inv ∧ (busy 0x0800#16).SentWellFormed ∧ ∃ t, step (busy 0x0800#16) = .next t :=
  ⟨test_witness_Inv, by unfold State.SentWellFormed; decide +kernel, _, rfl⟩

/-- Every flag is changed by some command. -/
theorem test_witness_FlagsChangedOnlyByTheirCommands :
    (after (exec (.push (.unknown 0xFF#8)) small)).map (fun t => t.flag .unk) = some true ∧
    (after (exec (.tchr 0x80#8) small)).map (fun t => t.flag .nasc) = some true ∧
    (after (exec (.tchr 0x41#8) { small with tlen := 4#16 })).map (fun t => t.flag .tovf) = some true ∧
    (after (exec .dchk (loaded frameV4))).map (fun t => t.flag .dvalid) = some true ∧
    (after (exec .dchk (loaded frameCorrupt))).map (fun t => t.flag .crcerr) = some true ∧
    (after (exec .dchk (loaded frameBadDpad))).map (fun t => t.flag .dperr) = some true ∧
    (after (exec .emit { small with rxTape := [some 0x91#8] })).map (fun t => (t.flag .ackv, t.flag .ackm)) = some (true, true) ∧
    Flag.all.all (fun f => !small.flag f) = true := by decide +kernel

/-- Every register of the encode side and the Checksum Engine is changed by some command. -/
theorem test_witness_RegistersWritten_encode :
    (after (exec (.push (.button .minus)) small)).map (fun t => decide (t.btn ≠ small.btn)) = some true ∧
    (after (exec (.push (.dpad .up)) small)).map (fun t => decide (t.dpad ≠ small.dpad)) = some true ∧
    (after (exec (.setlx 0x00#8) small)).map (fun t => decide (t.lx ≠ small.lx)) = some true ∧
    (after (exec (.setly 0x00#8) small)).map (fun t => decide (t.ly ≠ small.ly)) = some true ∧
    (after (exec (.setrx 0x00#8) small)).map (fun t => decide (t.rx ≠ small.rx)) = some true ∧
    (after (exec (.setry 0x00#8) small)).map (fun t => decide (t.ry ≠ small.ry)) = some true ∧
    (after (exec (.setvnd 0x01#8) small)).map (fun t => decide (t.vnd ≠ small.vnd)) = some true ∧
    (after (exec (.crcbyte 0x01#8) small)).map (fun t => decide (t.crc ≠ small.crc)) = some true := by decide +kernel

/-- Every other register is changed by some command. -/
theorem test_witness_RegistersWritten_frame_and_text :
    (after (exec (.dbyte 0x01#8) small)).map (fun t => decide (t.frm ≠ small.frm ∧ t.flen ≠ small.flen)) = some true ∧
    (after (exec .dchk (loaded frameV4))).map (fun t => decide (t.decodedFields ≠ (loaded frameV4).decodedFields)) = some true ∧
    (after (exec (.tchr 0x41#8) small)).map (fun t => decide (t.tbuf ≠ small.tbuf ∧ t.tlen ≠ small.tlen)) = some true ∧
    (after (exec .emit { small with rxTape := [some 0x90#8] })).map (fun t => decide (t.ack ≠ small.ack)) = some true := by
  decide +kernel

/-- A state with the three poisons set, and a command other than those that lift them. -/
theorem test_witness_PoisonPersists :
    (∃ t, exec .emit { small with status := 0x07#8 } = .next t) ∧ Instr.emit ≠ .clr ∧ Instr.emit ≠ .tclr ∧
    State.flag { small with status := 0x07#8 } .unk = true ∧ State.flag { small with status := 0x07#8 } .nasc = true ∧
    State.flag { small with status := 0x07#8 } .tovf = true := ⟨⟨_, rfl⟩, by decide⟩

theorem test_witness_ChannelUsedOnlyByEmitAndTsend :
    1 ≤ small.textMax ∧ (∃ t, exec .emit small = .next t) ∧ (∃ t, exec .tsend small = .next t) ∧ ∃ t, exec .nop small = .next t :=
  ⟨by decide, ⟨_, rfl⟩, ⟨_, rfl⟩, _, rfl⟩

/-! ### Witnesses: the link context -/

/-- A successful attempt of each variant, and a failure at each step. -/
theorem test_witness_attempts :
    (attempt .chocolate ⟨some 0xFF#8, some 0xEE#8, some 0x00#8⟩).2 = none ∧
    (some 0xFE#8 : Option Byte) ≠ some 0xFF#8 ∧ (some 0xED#8 : Option Byte) ≠ some 0xEE#8 ∧ (some 0xCD#8 : Option Byte) ≠ some 0xCC#8 ∧
    (none : Option Byte) ≠ some 0x33#8 := by decide

/-- A Chocolate attempt under way and answers it takes. -/
theorem test_witness_ChocolateTakesAnyIdentifier :
    Session.link { Session.fresh with link := .handshaking, variant := some .chocolate } = .handshaking ∧
    Session.variant { Session.fresh with link := .handshaking, variant := some .chocolate } = some .chocolate ∧
    (attempt .chocolate ⟨some 0xFF#8, some 0xEE#8, some 0xFF#8⟩).2 = none := by decide

/-- An attempt that ends in Ready, and one that ends in Failed. -/
theorem test_witness_SessionFollowsLifecycle :
    ((Session.step none (.finish ⟨some 0xFF#8, some 0xCC#8, some 0x33#8⟩) { Session.fresh with link := .handshaking, variant := some .vanilla }).map
      fun t => t.link) = some .ready ∧
    ((Session.step (some 1) (.finish ⟨none, none, none⟩) { Session.fresh with link := .handshaking, variant := some .vanilla }).map
      fun t => t.link) = some .failed := by decide

end Sys2Proof.Tests
end

section
/-! The wire constants (00 R7): the sizes of the model's frame, Buttons and directions, and the statement that pins the table. -/

namespace Sys2Proof.Machine

@[simp] theorem Frame.bytes_length (f : Frame) : f.bytes.length = Config.FRAME_LEN := rfl

@[simp] theorem Frame.payload_length (f : Frame) : f.payload.length = Config.PAYLOAD_LEN := by
  have hfits : Config.PAYLOAD_LEN ≤ Config.FRAME_LEN := by decide
  rw [Frame.payload, List.length_take, Frame.bytes_length, Nat.min_eq_left hfits]

@[simp] theorem Button.length_all : Button.all.length = Config.N_BUTTONS := rfl

@[simp] theorem DpadDirection.length_all : DpadDirection.all.length = Config.N_DPAD := rfl

/-- Settles O1: the rows of R7's table are the constants' own definitions; the four counts are the length lemmas above. -/
theorem wireConstants : Obligations.WireConstants := by
  unfold Obligations.WireConstants
  have hframe (f : Frame) : f.bytes.length = Config.FRAME_LEN ∧ f.payload.length = Config.PAYLOAD_LEN :=
    ⟨f.bytes_length, f.payload_length⟩
  exact ⟨rfl, rfl, rfl, rfl, rfl, rfl, rfl, rfl, rfl, rfl, rfl, rfl, rfl,
    hframe, Button.length_all, DpadDirection.length_all⟩

end Sys2Proof.Machine
end

section
/-! What a step and the branching commands can do, with the guard of each outcome (20 R58, 41 R112, 42 R123, R124, 43 R140, R141). -/

namespace Sys2Proof.Machine

variable {s t : State}

/-- The three things a step can be (20 R58, 30 R82, 70 R202). -/
theorem step_cases (h : step s = .next t) :
    (s.hostCmds = [] ∧ t = s) ∨
    (∃ w rest i, s.hostCmds = w :: rest ∧ decode w = .command i ∧ exec i s.takeCommand = .next t) ∨
    (∃ w rest why, s.hostCmds = w :: rest ∧ decode w = .illegal why ∧ t = s.takeCommand.respond .illegalCommand) := by
  unfold step at h
  split at h
  case h_1 hnone => exact .inl ⟨hnone, (Host.Outcome.next.inj h).symm⟩
  case h_2 w rest hcmds =>
    split at h
    case h_1 i hi => exact .inr (.inl ⟨w, rest, i, hcmds, hi, h⟩)
    case h_2 why hwhy => exact .inr (.inr ⟨w, rest, why, hcmds, hwhy, (Host.Outcome.next.inj h).symm⟩)

theorem exec_emit_cases (h : exec .emit s = .next t) :
    (s.flag .unk = true ∧ t = s.respond .unknownInput) ∨ (s.flag .unk = false ∧ t = s.sendPacket) := by
  obtain rfl := Host.Outcome.next.inj h
  cases hunk : s.flag .unk
  · exact .inr ⟨rfl, rfl⟩
  · exact .inl ⟨rfl, rfl⟩

theorem exec_dbyte_cases {b : Byte} (h : exec (.dbyte b) s = .next t) :
    (s.flen = fullCount ∧ t = s.respond .frameLength) ∨
    (s.flen ≠ fullCount ∧ t = ((s.putFrameByte b).setDecodeFlags false false false).respond .ok) := by
  obtain rfl := Host.Outcome.next.inj h
  split
  case isTrue hfull => exact .inl ⟨hfull, rfl⟩
  case isFalse hroom => exact .inr ⟨hroom, rfl⟩

/-- A `DCHK` answers what the source's decode operation says of the frame (42 R120, R124). -/
theorem exec_dchk_cases (h : exec .dchk s = .next t) :
    let u : State := { s with crc := crc8 s.frm.payload }
    (s.flen ≠ fullCount ∧ t = (s.setDecodeFlags false false false).respond .frameLength) ∨
    (s.flen = fullCount ∧ decodePacket s.frm = .corrupt ∧
      t = (u.setDecodeFlags false true false).respond .checksumError) ∨
    (s.flen = fullCount ∧ decodePacket s.frm = .badDpadCode ∧
      t = (u.setDecodeFlags false false true).respond .badDpadCode) ∨
    (s.flen = fullCount ∧ decodePacket s.frm = .fields s.frm.fields ∧
      t = ((u.unpack s.frm.fields).setDecodeFlags true false false).respond .ok) := by
  obtain rfl := Host.Outcome.next.inj h
  rw [decodePacket_eq, State.judgeFrame_eq]
  by_cases hfull : s.flen = fullCount
  case neg => exact .inl ⟨hfull, if_pos hfull⟩
  by_cases hcrc : crc8 s.frm.payload = s.frm.check
  case neg => exact .inr (.inl ⟨hfull, by simp [Ne.symm hcrc], by simp [hfull, hcrc]⟩)
  by_cases hdpad : 0x08 < s.frm.dpadCode.toNat
  case pos => exact .inr (.inr (.inl ⟨hfull, by simp [hcrc, hdpad], by simp [hfull, hcrc, hdpad]⟩))
  case neg => exact .inr (.inr (.inr ⟨hfull, by simp [hcrc, hdpad], by simp [hfull, hcrc, hdpad]⟩))

theorem exec_tchr_cases {c : Byte} (h : exec (.tchr c) s = .next t) :
    (0x80 ≤ c.toNat ∧ t = (s.setFlag .nasc true).respond .nonAscii) ∨
    (c.toNat < 0x80 ∧ s.tlen.toNat = s.textMax ∧ t = (s.setFlag .tovf true).respond .textOverflow) ∨
    (c.toNat < 0x80 ∧ s.tlen.toNat ≠ s.textMax ∧ t = (s.putChar c).respond .ok) := by
  obtain rfl := Host.Outcome.next.inj h
  split
  case isTrue hc => exact .inl ⟨hc, rfl⟩
  case isFalse hc =>
    split
    case isTrue hfull => exact .inr (.inl ⟨not_le.mp hc, hfull, rfl⟩)
    case isFalse hroom => exact .inr (.inr ⟨not_le.mp hc, hroom, rfl⟩)

theorem exec_tsend_cases (h : exec .tsend s = .next t) :
    (s.flag .nasc = true ∧ t = s.respond .nonAscii) ∨
    (s.flag .nasc = false ∧ s.flag .tovf = true ∧ t = s.respond .textOverflow) ∨
    (s.flag .nasc = false ∧ s.flag .tovf = false ∧
      t = (s.txEmit (Config.SENTINEL ++ s.displayText)).respond .ok) := by
  obtain rfl := Host.Outcome.next.inj h
  cases hnasc : s.flag .nasc
  case true => exact .inl ⟨rfl, rfl⟩
  cases htovf : s.flag .tovf
  case true => exact .inr (.inl ⟨rfl, rfl, rfl⟩)
  case false => exact .inr (.inr ⟨rfl, rfl, rfl⟩)

/-- An `RD` only responds (44 R151, R152). -/
theorem exec_rd_responds {r : RegSel} (h : exec (.rd r) s = .next t) : ∃ c d, t = s.respondWith c d := by
  obtain rfl := Host.Outcome.next.inj h
  cases r with
  | reg x => exact ⟨.ok, s.readReg x, rfl⟩
  | unassigned n => exact ⟨.badRegister, 0x0000#16, rfl⟩

end Sys2Proof.Machine
end

section
/-! Which flags a command changes (10 R33, R34). -/

namespace Sys2Proof.Machine

variable {s t : State} {f g : Flag}

theorem eq_of_flag_setFlag_ne {u : State} {v : Bool} {c : RespCode} (hu : u.status = s.status)
    (h : ((u.setFlag f v).respond c).flag g ≠ s.flag g) : g = f := by
  by_contra hgf
  rw [State.flag_respond, State.flag_setFlag, if_neg hgf, State.flag_eq, State.flag_eq, hu] at h
  exact h rfl

theorem decodeFlag_of_flag_setDecodeFlags_ne {u : State} {dv ce dp : Bool} {c : RespCode} (hu : u.status = s.status)
    (h : ((u.setDecodeFlags dv ce dp).respond c).flag g ≠ s.flag g) : g = .dvalid ∨ g = .crcerr ∨ g = .dperr := by
  rw [State.flag_respond, State.flag_setDecodeFlags] at h
  cases g <;> simp [State.flag_eq, hu] at h ⊢

/-- A transmitted packet clears the decode flags and records its ack (41 R112). -/
theorem State.flag_sendPacket (s : State) (g : Flag) :
    s.sendPacket.flag g =
      match g with
      | .dvalid | .crcerr | .dperr => false
      | .ackv => (s.storeFrame s.packetFields.assemble).rxAnswer.isSome
      | .ackm => ackMismatch (s.storeFrame s.packetFields.assemble).rxAnswer
      | .unk | .nasc | .tovf => s.flag g := by
  simp only [State.sendPacket, State.flag_respond, State.flag_txEmit, State.flag_recordAck, State.flag_rxTry,
    State.flag_storeFrame]
  cases g <;> rfl

theorem ackOrDecodeFlag_of_flag_sendPacket_ne (h : s.sendPacket.flag g ≠ s.flag g) :
    g = .dvalid ∨ g = .crcerr ∨ g = .dperr ∨ g = .ackv ∨ g = .ackm := by
  rw [State.flag_sendPacket] at h
  cases g <;> simp at h ⊢

/-- Settles O51: a command writes STATUS only through `setFlag`, `setDecodeFlags` or `sendPacket`, and each of these changes only its own flags. -/
theorem flagsChangedOnlyByTheirCommands : Obligations.FlagsChangedOnlyByTheirCommands := by
  refine ⟨fun s => ⟨rfl, rfl, rfl, rfl, rfl, rfl, rfl, rfl⟩, fun i s t f h hne => ?_⟩
  cases i with
  | nop | setlx | setly | setrx | setry | setvnd | crcinit | crcbyte =>
    obtain rfl := Host.Outcome.next.inj h
    exact absurd rfl hne
  | rd r =>
    obtain ⟨c, d, rfl⟩ := exec_rd_responds h
    exact absurd rfl hne
  | tsend =>
    obtain ⟨-, rfl⟩ | ⟨-, -, rfl⟩ | ⟨-, -, rfl⟩ := exec_tsend_cases h <;> exact absurd rfl hne
  | clr =>
    obtain rfl := Host.Outcome.next.inj h
    obtain rfl := eq_of_flag_setFlag_ne rfl hne
    exact .inl rfl
  | push li =>
    obtain rfl := Host.Outcome.next.inj h
    cases li with
    | button | dpad => exact absurd rfl hne
    | unknown c =>
      obtain rfl := eq_of_flag_setFlag_ne rfl hne
      exact .inr ⟨c, rfl⟩
  | tclr =>
    obtain rfl := Host.Outcome.next.inj h
    simp only [State.flag_respond, State.flag_setFlag] at hne
    by_cases htovf : f = .tovf
    · subst htovf; exact .inl rfl
    by_cases hnasc : f = .nasc
    · subst hnasc; exact .inl rfl
    · rw [if_neg htovf, if_neg hnasc] at hne
      exact absurd rfl hne
  | tchr c =>
    obtain ⟨-, rfl⟩ | ⟨-, -, rfl⟩ | ⟨-, -, rfl⟩ := exec_tchr_cases h
    · obtain rfl := eq_of_flag_setFlag_ne rfl hne
      exact .inr ⟨c, rfl⟩
    · obtain rfl := eq_of_flag_setFlag_ne rfl hne
      exact .inr ⟨c, rfl⟩
    · exact absurd rfl hne
  | dbeg =>
    obtain rfl := Host.Outcome.next.inj h
    obtain rfl | rfl | rfl := decodeFlag_of_flag_setDecodeFlags_ne rfl hne <;> exact .inl rfl
  | dbyte b =>
    obtain ⟨-, rfl⟩ | ⟨-, rfl⟩ := exec_dbyte_cases h
    · exact absurd rfl hne
    · obtain rfl | rfl | rfl := decodeFlag_of_flag_setDecodeFlags_ne rfl hne <;> exact .inr (.inl ⟨b, rfl⟩)
  | dchk =>
    have hdecode : f = .dvalid ∨ f = .crcerr ∨ f = .dperr := by
      obtain ⟨-, rfl⟩ | ⟨-, -, rfl⟩ | ⟨-, -, rfl⟩ | ⟨-, -, rfl⟩ := exec_dchk_cases h <;>
        exact decodeFlag_of_flag_setDecodeFlags_ne rfl hne
    obtain rfl | rfl | rfl := hdecode <;> exact .inr (.inr (.inr rfl))
  | emit =>
    obtain ⟨-, rfl⟩ | ⟨hunk, rfl⟩ := exec_emit_cases h
    · exact absurd rfl hne
    · obtain rfl | rfl | rfl | rfl | rfl := ackOrDecodeFlag_of_flag_sendPacket_ne hne
      · exact .inr (.inr (.inl ⟨rfl, hunk⟩))
      · exact .inr (.inr (.inl ⟨rfl, hunk⟩))
      · exact .inr (.inr (.inl ⟨rfl, hunk⟩))
      · exact ⟨rfl, hunk⟩
      · exact ⟨rfl, hunk⟩

end Sys2Proof.Machine
end

section
/-! Which registers a command changes (10 R23 to R35, R37). -/

namespace Sys2Proof.Machine

/-- Settles O52: the laws of the shared operations say of each one which registers it leaves alone; a command of several outcomes is taken outcome by outcome. -/
theorem registersWrittenOnlyByTheirCommands : Obligations.RegistersWrittenOnlyByTheirCommands := by
  intro i s t h
  cases i with
  | nop | clr | setlx | setly | setrx | setry | setvnd | crcinit | crcbyte | dbeg | tclr =>
    obtain rfl := Host.Outcome.next.inj h
    simp [State.decodedFields]
  | rd r =>
    obtain ⟨c, d, rfl⟩ := exec_rd_responds h
    simp [State.decodedFields]
  | push li =>
    obtain rfl := Host.Outcome.next.inj h
    cases li <;> simp [State.applyInput, State.decodedFields]
  | emit =>
    obtain ⟨-, rfl⟩ | ⟨-, rfl⟩ := exec_emit_cases h <;> simp [State.sendPacket, State.decodedFields]
  | dbyte b =>
    obtain ⟨-, rfl⟩ | ⟨-, rfl⟩ := exec_dbyte_cases h <;> simp [State.decodedFields]
  | dchk =>
    obtain ⟨-, rfl⟩ | ⟨-, -, rfl⟩ | ⟨-, -, rfl⟩ | ⟨-, -, rfl⟩ := exec_dchk_cases h <;>
      simp [State.decodedFields, State.flag_setDecodeFlags]
  | tchr c =>
    obtain ⟨-, rfl⟩ | ⟨-, -, rfl⟩ | ⟨-, -, rfl⟩ := exec_tchr_cases h <;> simp [State.decodedFields]
  | tsend =>
    obtain ⟨-, rfl⟩ | ⟨-, -, rfl⟩ | ⟨-, -, rfl⟩ := exec_tsend_cases h <;> simp [State.decodedFields]

end Sys2Proof.Machine
end

section
/-! The invariant by the parts of the block it speaks of: the frame buffer and its verdict, the text, the ack. -/

namespace Sys2Proof.Machine

variable {s t : State} {i : Instr}

/-- The frame buffer's part of the invariant: its count, and what the three decode flags say of it (10 R29, R33). -/
structure State.FrameInv (s : State) : Prop where
  flen_legal : s.flen.toNat ≤ Config.FRAME_LEN
  dvalid_means : s.flag .dvalid = true → s.flen = fullCount ∧ decodePacket s.frm = .fields s.decodedFields
  crcerr_means : s.flag .crcerr = true → s.flen = fullCount ∧ decodePacket s.frm = .corrupt
  dperr_means : s.flag .dperr = true → s.flen = fullCount ∧ decodePacket s.frm = .badDpadCode

/-- The text buffer's part (00 R8, 10 R31, R32). -/
structure State.TextInv (s : State) : Prop where
  textMax_legal : 1 ≤ s.textMax ∧ s.textMax ≤ 65535
  tlen_legal : s.tlen.toNat ≤ s.textMax
  tbuf_ascii : s.tbuf.all asciiByte = true

/-- The ack's part (10 R33, R35). -/
structure State.AckInv (s : State) : Prop where
  ackm_means : s.flag .ackm = true ↔ s.flag .ackv = true ∧ s.ack ≠ Config.ACK_EXPECTED
  ack_none : s.flag .ackv = false → s.ack = 0x00#8

/-- The invariant is its parts and the two dpad codes. -/
theorem State.inv_iff (s : State) :
    s.Inv ↔ s.dpad.toNat < Config.N_DPAD ∧ s.dDpad.toNat < Config.N_DPAD ∧ s.FrameInv ∧ s.TextInv ∧ s.AckInv :=
  ⟨fun h => ⟨h.dpad_legal, h.dDpad_legal, { h with }, { h with }, { h with }⟩,
    fun ⟨hdpad, hdDpad, hframe, htext, hack⟩ =>
      { hframe, htext, hack with dpad_legal := hdpad, dDpad_legal := hdDpad }⟩

/-- Taking a command touches no register. -/
theorem State.Inv.takeCommand (h : s.Inv) : s.takeCommand.Inv := { h with }

/-- Responding touches no register. -/
theorem State.Inv.respond (h : s.Inv) (c : RespCode) : (s.respond c).Inv := { h with }

/-! ### DPAD -/

theorem dpadCode_lt (d : DpadDirection) : d.code.toNat < Config.N_DPAD := by cases d <;> decide

/-- `DPAD` only ever gets CENTER's code or a direction's (10 R24). -/
theorem exec_dpad_legal (hs : s.dpad.toNat < Config.N_DPAD) (h : exec i s = .next t) :
    t.dpad.toNat < Config.N_DPAD := by
  obtain ⟨-, hdpad, -⟩ := registersWrittenOnlyByTheirCommands i s t h
  by_cases hsame : t.dpad = s.dpad
  · rwa [hsame]
  · obtain rfl | ⟨d, rfl⟩ := hdpad hsame <;> obtain rfl := Host.Outcome.next.inj h
    · exact dpadCode_lt .center
    · exact dpadCode_lt d

/-! ### The frame buffer -/

/-- After the decode flags are written it is enough that each flag written 1 says what is so. -/
theorem State.FrameInv.of_setDecodeFlags {u : State} {dv ce dp : Bool} {c : RespCode}
    (hflen : u.flen.toNat ≤ Config.FRAME_LEN)
    (hdv : dv = true → u.flen = fullCount ∧ decodePacket u.frm = .fields u.decodedFields)
    (hce : ce = true → u.flen = fullCount ∧ decodePacket u.frm = .corrupt)
    (hdp : dp = true → u.flen = fullCount ∧ decodePacket u.frm = .badDpadCode) :
    ((u.setDecodeFlags dv ce dp).respond c).FrameInv where
  flen_legal := hflen
  dvalid_means := by simpa [State.flag_setDecodeFlags, State.decodedFields] using hdv
  crcerr_means := by simpa [State.flag_setDecodeFlags, State.decodedFields] using hce
  dperr_means := by simpa [State.flag_setDecodeFlags, State.decodedFields] using hdp

/-- A transmitted packet leaves nine bytes that nothing has judged yet (41 R112). -/
theorem State.frameInv_sendPacket (s : State) : s.sendPacket.FrameInv where
  flen_legal := le_refl Config.FRAME_LEN
  dvalid_means := by simp [State.flag_sendPacket]
  crcerr_means := by simp [State.flag_sendPacket]
  dperr_means := by simp [State.flag_sendPacket]

/-- What `FrameInv` speaks of is the same in both states. -/
def State.SameFrameSide (s t : State) : Prop :=
  t.frm = s.frm ∧ t.flen = s.flen ∧ t.decodedFields = s.decodedFields ∧
  t.flag .dvalid = s.flag .dvalid ∧ t.flag .crcerr = s.flag .crcerr ∧ t.flag .dperr = s.flag .dperr

theorem State.FrameInv.of_same (hs : s.FrameInv) (hsame : s.SameFrameSide t) : t.FrameInv := by
  obtain ⟨hfrm, hflen, hfields, hdvalid, hcrcerr, hdperr⟩ := hsame
  obtain ⟨hlegal, hv, hc, hd⟩ := hs
  constructor <;> simpa only [hfrm, hflen, hfields, hdvalid, hcrcerr, hdperr]

/-- Only the four commands of the frame buffer touch its side (10 R28 to R30, R33). -/
theorem exec_sameFrameSide (h : exec i s = .next t) (hemit : i ≠ .emit) (hdbeg : i ≠ .dbeg)
    (hdbyte : ∀ b, i ≠ .dbyte b) (hdchk : i ≠ .dchk) : s.SameFrameSide t := by
  obtain ⟨-, -, -, -, -, -, -, -, hfrm, hflen, hfields, -⟩ := registersWrittenOnlyByTheirCommands i s t h
  have hflag (f : Flag) := flagsChangedOnlyByTheirCommands.2 i s t f h
  have hdvalid := hflag .dvalid
  have hcrcerr := hflag .crcerr
  have hdperr := hflag .dperr
  simp only [hemit, hdbeg, hdbyte, hdchk, exists_false, false_and, or_false, imp_false, not_not]
    at hfrm hflen hfields hdvalid hcrcerr hdperr
  exact ⟨hfrm, hflen, hfields, hdvalid, hcrcerr, hdperr⟩

/-- The count goes up only while it is below nine. -/
theorem flen_succ_le {n : Nibble} (hle : n.toNat ≤ Config.FRAME_LEN) (hroom : n ≠ fullCount) :
    (n + 1#4).toNat ≤ Config.FRAME_LEN := by
  simp only [fullCount_eq, FRAME_LEN_eq] at *
  bv_omega

/-- The frame buffer's part is kept: a command that empties or refills `FRM` clears the flags, and `DCHK` sets the one that decode's verdict names. -/
theorem exec_frameInv (hs : s.FrameInv) (h : exec i s = .next t) : t.FrameInv := by
  cases i with
  | emit =>
    obtain ⟨-, rfl⟩ | ⟨-, rfl⟩ := exec_emit_cases h
    · exact { hs with }
    · exact s.frameInv_sendPacket
  | dbeg =>
    obtain rfl := Host.Outcome.next.inj h
    exact .of_setDecodeFlags (Nat.zero_le _) nofun nofun nofun
  | dbyte b =>
    obtain ⟨-, rfl⟩ | ⟨hroom, rfl⟩ := exec_dbyte_cases h
    · exact { hs with }
    · exact .of_setDecodeFlags (flen_succ_le hs.flen_legal hroom) nofun nofun nofun
  | dchk =>
    obtain ⟨-, rfl⟩ | ⟨hfull, hverdict, rfl⟩ | ⟨hfull, hverdict, rfl⟩ | ⟨hfull, hverdict, rfl⟩ := exec_dchk_cases h
    · exact .of_setDecodeFlags hs.flen_legal nofun nofun nofun
    · exact .of_setDecodeFlags hs.flen_legal nofun (fun _ => ⟨hfull, hverdict⟩) nofun
    · exact .of_setDecodeFlags hs.flen_legal nofun nofun (fun _ => ⟨hfull, hverdict⟩)
    · exact .of_setDecodeFlags hs.flen_legal (fun _ => ⟨hfull, hverdict⟩) nofun nofun
  | nop | clr | push | setlx | setly | setrx | setry | setvnd | crcinit | crcbyte | tclr | tchr | tsend | rd =>
    exact hs.of_same (exec_sameFrameSide h nofun nofun nofun nofun)

/-- What decode accepts has a direction's code (42 R120). -/
theorem code_lt_of_decodePacket_eq_fields {f : Frame} {p : PacketFields} (h : decodePacket f = .fields p) :
    p.code.toNat < Config.N_DPAD := by
  rw [decodePacket_eq] at h
  split at h
  · cases h
  · split at h
    · cases h
    case isFalse _ hcode =>
      obtain rfl := DecodeResult.fields.inj h
      simp only [Frame.fields, N_DPAD_eq, BitVec.toNat_setWidth]
      omega

/-- `D_DPAD` changes only with a `DCHK` that sets `DVALID`, and then it is a code decode accepted (10 R30). -/
theorem exec_dDpad_legal (hs : s.dDpad.toNat < Config.N_DPAD) (ht : t.FrameInv) (h : exec i s = .next t) :
    t.dDpad.toNat < Config.N_DPAD := by
  obtain ⟨-, -, -, -, -, -, -, -, -, -, hfields, -⟩ := registersWrittenOnlyByTheirCommands i s t h
  by_cases hsame : t.decodedFields = s.decodedFields
  · rwa [show t.dDpad = s.dDpad from congrArg PacketFields.code hsame]
  · obtain ⟨-, hdvalid⟩ := hfields hsame
    obtain ⟨-, hdecode⟩ := ht.dvalid_means hdvalid
    exact code_lt_of_decodePacket_eq_fields hdecode

/-! ### The text -/

theorem State.TextInv.of_same (hs : s.TextInv) (htbuf : t.tbuf = s.tbuf) (htlen : t.tlen = s.tlen) : t.TextInv := by
  obtain ⟨hmax, hlen, hascii⟩ := hs
  constructor <;> simpa only [State.textMax, htbuf, htlen]

/-- An empty text is legal whatever bytes the buffer still holds. -/
theorem State.TextInv.of_tlen_zero (hs : s.TextInv) (htbuf : t.tbuf = s.tbuf) (htlen : t.tlen = 0#16) : t.TextInv := by
  obtain ⟨hmax, -, hascii⟩ := hs
  constructor <;> simp_all [State.textMax]

/-- An ASCII character stored where there is room keeps the text legal; `TLEN` does not wrap, because TEXT_MAX is at most 65535. -/
theorem State.TextInv.putChar (hs : s.TextInv) {c : Byte} (hc : c.toNat < 0x80) (hroom : s.tlen.toNat ≠ s.textMax) :
    (s.putChar c).TextInv where
  textMax_legal := by simpa using hs.textMax_legal
  tlen_legal := by
    have hmax := hs.textMax_legal.2
    have hlen := hs.tlen_legal
    simp only [State.putChar_tlen, State.textMax_putChar, BitVec.toNat_add, BitVec.toNat_ofNat]
    omega
  tbuf_ascii := by
    have hascii := hs.tbuf_ascii
    rw [List.all_eq_true] at hascii ⊢
    intro x hx
    obtain hx | rfl := List.mem_or_eq_of_mem_set hx
    · exact hascii x hx
    · exact decide_eq_true hc

theorem exec_textInv (hs : s.TextInv) (h : exec i s = .next t) : t.TextInv := by
  obtain ⟨-, -, -, -, -, -, -, -, -, -, -, htbuf, htlen, -⟩ := registersWrittenOnlyByTheirCommands i s t h
  by_cases hi : i = .tclr ∨ ∃ c, i = .tchr c
  case neg => exact hs.of_same (not_not.mp fun hne => hi (.inr (htbuf hne))) (not_not.mp (mt htlen hi))
  obtain rfl | ⟨c, rfl⟩ := hi
  · obtain rfl := Host.Outcome.next.inj h
    exact hs.of_tlen_zero rfl rfl
  · obtain ⟨-, rfl⟩ | ⟨-, -, rfl⟩ | ⟨hc, hroom, rfl⟩ := exec_tchr_cases h
    · exact hs.of_same rfl rfl
    · exact hs.of_same rfl rfl
    · exact (hs.putChar hc hroom).of_same rfl rfl

/-! ### The ack -/

theorem State.AckInv.of_same (hs : s.AckInv) (hack : t.ack = s.ack) (hackv : t.flag .ackv = s.flag .ackv)
    (hackm : t.flag .ackm = s.flag .ackm) : t.AckInv := by
  obtain ⟨hm, hnone⟩ := hs
  constructor <;> simpa only [hack, hackv, hackm]

/-- A recorded ack read, whatever it answered, leaves the three in agreement (41 R112, 60 R184). -/
theorem State.ackInv_recordAck (s : State) (a : Option Byte) : (s.recordAck a).AckInv := by
  cases a <;> constructor <;> simp [State.flag_recordAck, ackMismatch]

theorem exec_ackInv (hs : s.AckInv) (h : exec i s = .next t) : t.AckInv := by
  obtain ⟨-, -, -, -, -, -, -, -, -, -, -, -, -, hack⟩ := registersWrittenOnlyByTheirCommands i s t h
  by_cases hi : i = .emit
  · subst hi
    obtain ⟨-, rfl⟩ | ⟨-, rfl⟩ := exec_emit_cases h
    · exact { hs with }
    · exact (State.ackInv_recordAck _ _).of_same rfl rfl rfl
  · have hflag (f : Flag) := flagsChangedOnlyByTheirCommands.2 i s t f h
    exact hs.of_same (not_not.mp (mt hack hi)) (not_not.mp fun hne => hi (hflag .ackv hne).1)
      (not_not.mp fun hne => hi (hflag .ackm hne).1)

/-! ### The whole invariant -/

theorem exec_inv (hs : s.Inv) (h : exec i s = .next t) : t.Inv := by
  obtain ⟨hdpad, hdDpad, hframe, htext, hack⟩ := s.inv_iff.mp hs
  have hframe' := exec_frameInv hframe h
  exact t.inv_iff.mpr ⟨exec_dpad_legal hdpad h, exec_dDpad_legal hdDpad hframe' h, hframe', exec_textInv htext h,
    exec_ackInv hack h⟩

/-- Settles O49: a step waits, executes a command, or answers an illegal word, and each keeps the invariant. -/
theorem invKept : Obligations.InvKept := by
  intro s t hs h
  obtain ⟨-, rfl⟩ | ⟨w, rest, i, -, -, hexec⟩ | ⟨w, rest, why, -, -, rfl⟩ := step_cases h
  · exact hs
  · exact exec_inv hs.takeCommand hexec
  · exact hs.takeCommand.respond .illegalCommand

end Sys2Proof.Machine
end

section
/-! The state after reset (10 R39): its values, and that it meets the invariant. -/

namespace Sys2Proof.Machine

theorem TEXT_MAX_bounds : 1 ≤ Config.TEXT_MAX ∧ Config.TEXT_MAX ≤ 65535 := by
  unfold Config.TEXT_MAX
  omega

@[simp] theorem State.flag_resetWith (n : Nat) (f : Flag) : (State.resetWith n).flag f = false :=
  BitVec.getLsbD_zero

@[simp] theorem State.textMax_resetWith (n : Nat) : (State.resetWith n).textMax = n := List.length_replicate

/-- Reset meets the invariant with any text buffer of a legal size: every flag is 0, every register at its default. -/
theorem State.resetWith_inv {n : Nat} (hn : 1 ≤ n ∧ n ≤ 65535) : (State.resetWith n).Inv where
  dpad_legal := dpadCode_lt .center
  dDpad_legal := dpadCode_lt .center
  flen_legal := Nat.zero_le _
  textMax_legal := by rwa [State.textMax_resetWith]
  tlen_legal := Nat.zero_le _
  tbuf_ascii := List.all_eq_true.mpr fun c hc => by rw [List.eq_of_mem_replicate hc]; rfl
  dvalid_means := by simp
  crcerr_means := by simp
  dperr_means := by simp
  ackm_means := by simp
  ack_none := fun _ => rfl

/-- Settles O48: TEXT_MAX is a legal size, and the channel is empty at reset. -/
theorem resetMeetsInv : Obligations.ResetMeetsInv :=
  ⟨State.resetWith_inv TEXT_MAX_bounds, fun _ hf => absurd hf List.not_mem_nil⟩

/-- The four commands write what is already there: from reset they leave nothing but their responses. -/
theorem runCommands_clr_crcinit_dbeg_tclr_reset :
    runCommands [.clr, .crcinit, .dbeg, .tclr] State.reset =
      .next { State.reset with responses := List.replicate 4 ⟨.ok, 0x0000#16⟩ } := rfl

theorem State.reset_frm_get (j : Fin 9) : State.reset.frm.get j = 0x00#8 := by fin_cases j <;> rfl

/-- Settles O45: R39's values are `State.reset`'s own, and the responses the four commands leave are no registers. -/
theorem resetValues : Obligations.ResetValues :=
  ⟨⟨rfl, rfl, rfl, rfl, rfl, rfl, rfl, rfl, State.reset_frm_get, rfl, rfl, rfl, rfl, rfl, rfl, rfl, rfl, rfl,
    fun _ hc => List.eq_of_mem_replicate hc, rfl, rfl⟩, _, runCommands_clr_crcinit_dbeg_tclr_reset, rfl⟩

end Sys2Proof.Machine
end

section
/-! Decoding the word of a well-formed command gives the command back (30 R70 to R72, R78, R88; 10 R36). -/

namespace Sys2Proof.Machine

theorem decode_append (op arg : Byte) : decode (op ++ arg) = decodeFields op arg := by
  obtain ⟨hop, harg⟩ := Laws.EncodeFields.fields_append op arg
  rw [decode, hop, harg]

/-- A table whose numbers all fail a test holds no entry with a number that passes it. -/
theorem find?_number_eq_none {α : Type} {table : List α} {number : α → Byte} {free : Byte → Bool} {n : Byte}
    (htable : ∀ x ∈ table, free (number x) = false) (hn : free n = true) :
    table.find? (fun x => number x == n) = none := by
  refine List.find?_eq_none.mpr fun x hx heq => ?_
  have hused := htable x hx
  rw [beq_iff_eq.mp heq, hn] at hused
  cases hused

/-- No named input has a code that names nothing (30 R78). -/
theorem unknownCode_code_of_mem_named : ∀ li ∈ LogicalInput.named, unknownCode li.code = false := by decide

theorem ofCode_of_unknownCode {c : Byte} (hc : unknownCode c = true) : LogicalInput.ofCode c = .unknown c := by
  simp only [LogicalInput.ofCode, find?_number_eq_none unknownCode_code_of_mem_named hc]

/-- The code of a well-formed `PUSH` operand names that operand. -/
theorem ofCode_code {li : LogicalInput} (hwf : (Instr.push li).wf = true) : LogicalInput.ofCode li.code = li := by
  cases li with
  | button k => cases k <;> rfl
  | dpad d => cases d <;> rfl
  | unknown c => exact ofCode_of_unknownCode hwf

theorem ofNumber_number_reg (r : Reg) : RegSel.ofNumber r.number = .reg r := by
  cases r with
  | frm i => fin_cases i <;> rfl
  | _ => rfl

/-- No register has an unassigned number (10 R36, 44 R152). -/
theorem unassignedNumber_number_of_mem_all : ∀ r ∈ Reg.all, unassignedNumber r.number = false := by decide

theorem ofNumber_of_unassignedNumber {n : Byte} (hn : unassignedNumber n = true) :
    RegSel.ofNumber n = .unassigned n := by
  simp only [RegSel.ofNumber, find?_number_eq_none unassignedNumber_number_of_mem_all hn]

/-- The number of a well-formed `RD` operand names that operand. -/
theorem ofNumber_number {r : RegSel} (hwf : (Instr.rd r).wf = true) : RegSel.ofNumber r.number = r := by
  cases r with
  | reg r => exact ofNumber_number_reg r
  | unassigned n => exact ofNumber_of_unassignedNumber hwf

/-- Only the operands of `PUSH` and `RD` are looked up in a table; every other command's fields are its row of 30 R72. -/
theorem decode_encode {i : Instr} (hwf : i.wf = true) : decode (encode i) = .command i := by
  rw [encode, decode_append]
  cases i with
  | push li => exact congrArg (Decoded.command ∘ Instr.push) (ofCode_code hwf)
  | rd r => exact congrArg (Decoded.command ∘ Instr.rd) (ofNumber_number hwf)
  | _ => rfl

end Sys2Proof.Machine
end

section
/-! Commands presented one after another (20 R58, 10 R22): a step runs the next one, and no command sees which words stand behind it. -/

namespace Sys2Proof.Machine

/-- Settles O6: the step's match goes to the decoded command's arm, and taking a command leaves the words behind it. -/
theorem stepRunsDecodedCommand : Obligations.StepRunsDecodedCommand := by
  intro s w rest i hcmds hdecode
  simp only [step, State.takeCommand, hcmds, hdecode, List.tail_cons]

/-! ### The words still to be presented and the operations of a command -/

section

variable (s : State) (ws : List Word)

theorem State.packetFields_present : (s.present ws).packetFields = s.packetFields := rfl

theorem State.rxAnswer_present : (s.present ws).rxAnswer = s.rxAnswer := rfl

theorem State.storeFrame_present (f : Frame) : (s.present ws).storeFrame f = (s.storeFrame f).present ws := rfl

theorem State.rxTry_present : (s.present ws).rxTry = s.rxTry.present ws := rfl

theorem State.recordAck_present (a : Option Byte) : (s.present ws).recordAck a = (s.recordAck a).present ws := rfl

theorem State.txEmit_present (f : List Byte) : (s.present ws).txEmit f = (s.txEmit f).present ws := rfl

theorem State.respond_present (c : RespCode) : (s.present ws).respond c = (s.respond c).present ws := rfl

theorem State.sendPacket_present : (s.present ws).sendPacket = s.sendPacket.present ws := by
  simp only [State.sendPacket, State.packetFields_present, State.storeFrame_present, State.rxAnswer_present,
    State.rxTry_present, State.recordAck_present, State.txEmit_present, State.respond_present]

theorem State.judgeFrame_present : (s.present ws).judgeFrame = s.judgeFrame.present ws := by
  simp only [State.judgeFrame, apply_ite (State.present · ws)]
  rfl

end

/-- What a command does depends on no word still to be presented, and it leaves those words alone. -/
theorem exec_present {i : Instr} {s t : State} (ws : List Word) (h : exec i s = .next t) :
    exec i (s.present ws) = .next (t.present ws) := by
  cases i with
  | emit =>
    obtain rfl := Host.Outcome.next.inj h
    rw [apply_ite (State.present · ws), ← State.sendPacket_present]
    rfl
  | dchk =>
    obtain rfl := Host.Outcome.next.inj h
    rw [apply_ite (State.present · ws), ← State.judgeFrame_present]
    rfl
  | dbyte b | tchr c | tsend =>
    obtain rfl := Host.Outcome.next.inj h
    simp only [apply_ite (State.present · ws)]
    rfl
  | push li =>
    obtain rfl := Host.Outcome.next.inj h
    cases li <;> rfl
  | rd r =>
    obtain rfl := Host.Outcome.next.inj h
    cases r with
    | reg x => cases x <;> rfl
    | unassigned n => rfl
  | nop | clr | setlx | setly | setrx | setry | setvnd | crcinit | crcbyte | dbeg | tclr =>
    obtain rfl := Host.Outcome.next.inj h
    rfl

/-! ### Steps -/

/-- The block presented the word of a well-formed command executes that command, the other words still to come. -/
theorem step_present_encode {i : Instr} (hwf : i.wf = true) (s : State) (ws : List Word) :
    step (s.present (encode i :: ws)) = exec i (s.present ws) :=
  stepRunsDecodedCommand _ _ _ i rfl (decode_encode hwf)

theorem run_succ {M : Host.Core} {s t : M.State} (h : M.step s = .next t) (n : Nat) : M.run (n + 1) s = M.run n t := by
  rw [Host.Core.run, h]

theorem core_run_succ {s t : State} (h : step s = .next t) (n : Nat) : core.run (n + 1) s = core.run n t :=
  run_succ (M := core) (s := s) (t := t) h n

/-- Settles O11, by induction on the commands: a step leaves what the first command leaves, presented the words of the rest. -/
theorem presentedWordsRunInOrder : Obligations.PresentedWordsRunInOrder := by
  intro cmds s t later hwf hrun
  induction cmds generalizing s with
  | nil => exact hrun
  | cons i rest ih =>
    obtain ⟨hi, hrest⟩ := List.forall_mem_cons.mp hwf
    cases hexec : exec i (s.present later) with
    | fault r => cases r
    | refused r => simp only [runCommands, hexec, reduceCtorEq] at hrun
    | next u =>
      have hpresent (ws : List Word) : exec i (s.present ws) = .next (u.present ws) :=
        exec_present (s := s.present later) ws hexec
      have hlater : u = u.present later := Host.Outcome.next.inj (hexec.symm.trans (hpresent later))
      have hrest' : runCommands rest (u.present later) = .next t := by
        simpa only [runCommands, hexec, ← hlater] using hrun
      exact (core_run_succ ((step_present_encode hi s _).trans (hpresent _)) _).trans (ih u hrest hrest')

end Sys2Proof.Machine
end

section
/-! The byte channel (20 R52, R53, R59, R63): what `EMIT` and `TSEND` put on it, and that no other command uses it. -/

namespace Sys2Proof.Machine

variable {s t : State} {i : Instr}

/-! ### What a packet sent does to the channel -/

/-- The ack read comes before the transmit (20 R59). -/
theorem State.channel_sendPacket (s : State) :
    s.sendPacket.channel = s.channel ++ [ChannelEvent.read s.rxAnswer, .write s.packetFields.assemble.bytes] := by
  have hanswer : (s.storeFrame s.packetFields.assemble).rxAnswer = s.rxAnswer := rfl
  simp [State.sendPacket, hanswer]

theorem State.rxTape_sendPacket (s : State) : s.sendPacket.rxTape = s.rxTape.tail := by
  simp [State.sendPacket]

theorem exec_emit_of_not_unk (h : s.flag .unk = false) : exec .emit s = .next s.sendPacket := by
  simp only [exec, execEmit, h, Bool.false_eq_true, if_false]

/-- Settles O25: the answer is the tape's head, or the free value when the tape is empty, and the read is the first of the two events. -/
theorem ackReadTakesNextAnswer : Obligations.AckReadTakesNextAnswer := by
  intro s hunk
  have hfirst : s.sendPacket.channel.take (s.channel.length + 1) = s.channel ++ [ChannelEvent.read s.rxAnswer] := by
    simp [State.channel_sendPacket, List.take_append]
  refine ⟨s.sendPacket, exec_emit_of_not_unk hunk, fun a rest htape => ?_, fun htape => ?_⟩
  · rw [hfirst, State.rxTape_sendPacket, State.rxAnswer_cons s htape, htape]
    exact ⟨rfl, rfl⟩
  · have hfree : s.rxAnswer = Config.rxDraw s.rxDraws := by simp only [State.rxAnswer, htape]
    rw [hfirst, State.rxTape_sendPacket, hfree, htape]
    exact ⟨rfl, rfl⟩

/-! ### What a command adds to the channel -/

/-- The display frame a `TSEND` sends (43 R141). -/
def State.displayBytes (s : State) : List Byte := Config.SENTINEL ++ s.displayText

theorem exec_channel_cases (h : exec i s = .next t) :
    t.channel = s.channel ∨
    (i = .emit ∧ t.channel = s.channel ++ [ChannelEvent.read s.rxAnswer, .write s.packetFields.assemble.bytes]) ∨
    (i = .tsend ∧ t.channel = s.channel ++ [ChannelEvent.write s.displayBytes]) := by
  cases i with
  | emit =>
    obtain ⟨-, rfl⟩ | ⟨-, rfl⟩ := exec_emit_cases h
    · exact .inl rfl
    · exact .inr (.inl ⟨rfl, s.channel_sendPacket⟩)
  | tsend =>
    obtain ⟨-, rfl⟩ | ⟨-, -, rfl⟩ | ⟨-, -, rfl⟩ := exec_tsend_cases h
    · exact .inl rfl
    · exact .inl rfl
    · exact .inr (.inr ⟨rfl, rfl⟩)
  | push li =>
    obtain rfl := Host.Outcome.next.inj h
    cases li <;> exact .inl rfl
  | rd r =>
    obtain ⟨c, d, rfl⟩ := exec_rd_responds h
    exact .inl rfl
  | dbyte b =>
    obtain ⟨-, rfl⟩ | ⟨-, rfl⟩ := exec_dbyte_cases h <;> exact .inl (by simp)
  | dchk =>
    obtain ⟨-, rfl⟩ | ⟨-, -, rfl⟩ | ⟨-, -, rfl⟩ | ⟨-, -, rfl⟩ := exec_dchk_cases h <;> exact .inl (by simp)
  | tchr c =>
    obtain ⟨-, rfl⟩ | ⟨-, -, rfl⟩ | ⟨-, -, rfl⟩ := exec_tchr_cases h <;> exact .inl (by simp)
  | nop | clr | setlx | setly | setrx | setry | setvnd | crcinit | crcbyte | dbeg | tclr =>
    obtain rfl := Host.Outcome.next.inj h
    exact .inl (by simp)

/-- A text sent is never empty, and never longer than the text buffer, which has room for the one space. -/
theorem State.displayText_length (hmax : 1 ≤ s.textMax) :
    1 ≤ s.displayText.length ∧ s.displayText.length ≤ s.textMax := by
  unfold State.displayText
  split
  case isTrue => exact ⟨le_refl 1, hmax⟩
  case isFalse htlen =>
    have hpos : s.tlen.toNat ≠ 0 := fun h0 => htlen (BitVec.eq_of_toNat_eq h0)
    simp only [State.text, State.textMax, List.length_take] at hmax ⊢
    omega

theorem State.displayBytes_length (s : State) : s.displayBytes.length = 9 + s.displayText.length := List.length_append

/-- Settles O54: a packet has nine bytes, a display frame nine and the text's. -/
theorem channelUsedOnlyByEmitAndTsend : Obligations.ChannelUsedOnlyByEmitAndTsend := by
  intro i s t hmax h
  obtain hsame | ⟨hi, hch⟩ | ⟨hi, hch⟩ := exec_channel_cases h
  · exact .inl hsame
  · exact .inr (.inl ⟨hi, _, _, hch, Frame.bytes_length _⟩)
  · obtain ⟨hlow, hhigh⟩ := State.displayText_length hmax
    have hlen := s.displayBytes_length
    exact .inr (.inr ⟨hi, _, hch, by omega, by omega⟩)

end Sys2Proof.Machine
end

section
/-! Every frame transmitted is well formed (20 R52, R63, 30 R74, R79), and the text buffer keeps its size. -/

namespace Sys2Proof.Machine

variable {s t : State} {i : Instr}

/-! ### The two kinds of frame -/

/-- What encode assembles from a direction's code is a valid packet (30 R74, R77). -/
theorem inputPacket_assemble {p : PacketFields} (hcode : p.code.toNat < Config.N_DPAD) :
    inputPacket p.assemble.bytes = true := by
  have hcheck : p.assemble.check = crc8 p.assemble.payload := rfl
  have hlegal : legalDpadCode p.assemble.dpadCode = true := by
    refine decide_eq_true ?_
    rwa [PacketFields.assemble, BitVec.toNat_setWidth_of_le (by decide)]
  exact Bool.and_eq_true_iff.mpr ⟨beq_iff_eq.mpr hcheck, hlegal⟩

theorem State.displayText_ascii (hs : s.TextInv) : s.displayText.all asciiByte = true := by
  unfold State.displayText
  split
  case isTrue => rfl
  case isFalse =>
    have hascii := List.all_eq_true.mp hs.tbuf_ascii
    exact List.all_eq_true.mpr fun c hc => hascii c (List.mem_of_mem_take hc)

/-- The sentinel and a legal text are a display frame (30 R79). -/
theorem displayFrame_displayBytes (hs : s.TextInv) : displayFrame s.textMax s.displayBytes = true := by
  obtain ⟨hlow, hhigh⟩ := State.displayText_length hs.textMax_legal.1
  have hlen := s.displayBytes_length
  have hnine : Config.SENTINEL_LEN = 9 := rfl
  have hsentinel : s.displayBytes.take Config.SENTINEL_LEN = Config.SENTINEL :=
    List.take_left (l₁ := Config.SENTINEL)
  have hascii : s.displayBytes.all asciiByte = true := by
    rw [State.displayBytes, List.all_append, State.displayText_ascii hs]
    rfl
  simp only [displayFrame, hsentinel, hascii, beq_self_eq_true, Bool.and_true, Bool.true_and, Bool.and_eq_true,
    decide_eq_true_eq]
  omega

/-! ### What a step adds -/

theorem exec_textMax (h : exec i s = .next t) : t.textMax = s.textMax := by
  obtain ⟨-, -, -, -, -, -, -, -, -, -, -, htbuf, -⟩ := registersWrittenOnlyByTheirCommands i s t h
  by_cases hsame : t.tbuf = s.tbuf
  · exact congrArg List.length hsame
  · obtain ⟨c, rfl⟩ := htbuf hsame
    obtain ⟨-, rfl⟩ | ⟨-, -, rfl⟩ | ⟨-, -, rfl⟩ := exec_tchr_cases h
    · rfl
    · rfl
    · exact s.textMax_putChar c

/-- What may be added to the channel of a block with a text buffer of `capacity` bytes: at most two events, every frame among them well formed. -/
def GoodEvents (capacity : Nat) (new : List ChannelEvent) : Prop :=
  new.length ≤ 2 ∧ ∀ f ∈ framesOf new, goodFrame capacity f = true

theorem goodEvents_nil (capacity : Nat) : GoodEvents capacity [] := ⟨Nat.zero_le 2, nofun⟩

theorem goodEvents_packet {capacity : Nat} {a : Option Byte} {f : List Byte} (hf : goodFrame capacity f = true) :
    GoodEvents capacity [.read a, .write f] := ⟨le_refl 2, List.forall_mem_singleton.mpr hf⟩

theorem goodEvents_display {capacity : Nat} {f : List Byte} (hf : goodFrame capacity f = true) :
    GoodEvents capacity [.write f] := ⟨one_le_two, List.forall_mem_singleton.mpr hf⟩

theorem exec_goodEvents (hs : s.Inv) (h : exec i s = .next t) :
    ∃ new, t.channel = s.channel ++ new ∧ GoodEvents s.textMax new := by
  obtain hsame | ⟨-, hch⟩ | ⟨-, hch⟩ := exec_channel_cases h
  · exact ⟨[], hsame.trans (List.append_nil _).symm, goodEvents_nil _⟩
  · have hpacket : inputPacket s.packetFields.assemble.bytes = true := inputPacket_assemble hs.dpad_legal
    exact ⟨_, hch, goodEvents_packet (Bool.or_eq_true_iff.mpr (.inl hpacket))⟩
  · have hdisplay := displayFrame_displayBytes { hs with }
    exact ⟨_, hch, goodEvents_display (Bool.or_eq_true_iff.mpr (.inr hdisplay))⟩

/-- A step keeps TEXT_MAX and adds only good events to the channel. -/
theorem step_goodEvents (hs : s.Inv) (h : step s = .next t) :
    t.textMax = s.textMax ∧ ∃ new, t.channel = s.channel ++ new ∧ GoodEvents s.textMax new := by
  obtain ⟨-, rfl⟩ | ⟨w, rest, i, -, -, hexec⟩ | ⟨w, rest, why, -, -, rfl⟩ := step_cases h
  · exact ⟨rfl, [], (List.append_nil _).symm, goodEvents_nil _⟩
  · exact ⟨exec_textMax (s := s.takeCommand) hexec, exec_goodEvents (s := s.takeCommand) hs.takeCommand hexec⟩
  · exact ⟨rfl, [], (List.append_nil _).symm, goodEvents_nil _⟩

/-- Good events on top of good frames leave good frames. -/
theorem State.SentWellFormed.of_append {new : List ChannelEvent} (hs : s.SentWellFormed) (hmax : t.textMax = s.textMax)
    (hch : t.channel = s.channel ++ new) (hnew : GoodEvents s.textMax new) : t.SentWellFormed := by
  intro f hf
  rw [State.tx, hch, framesOf_append] at hf
  rw [hmax]
  obtain hold | hadded := List.mem_append.mp hf
  · exact hs f hold
  · exact hnew.2 f hadded

/-- Settles O50: what a step adds to the channel is good because `DPAD` holds a direction's code and the text is ASCII of at most TEXT_MAX bytes. -/
theorem sentFramesWellFormed : Obligations.SentFramesWellFormed := by
  intro s t hinv hsent h
  obtain ⟨hmax, new, hch, hnew⟩ := step_goodEvents hinv h
  exact ⟨hsent.of_append hmax hch hnew, hmax, new, hch, hnew.1⟩

end Sys2Proof.Machine
end

section
/-! A word is read as a command exactly when it is that command's own word (30 R70 to R72, R78, R82, R88; 10 R36). -/

namespace Sys2Proof.Machine

/-! ### The tables of named operands hold every number that names something -/

theorem number_of_find?_eq_some {α : Type} {table : List α} {number : α → Byte} {n : Byte} {x : α}
    (hfind : table.find? (fun y => number y == n) = some x) : number x = n :=
  beq_iff_eq.mp (List.find?_some (p := fun y => number y == n) hfind)

/-- A table that holds every number failing a test has an entry for each number but those that pass it. -/
theorem free_of_find?_number_eq_none {α : Type} {table : List α} {number : α → Byte} {free : Byte → Bool} {n : Byte}
    (hcover : ∀ m, free m = false → m ∈ table.map number) (hnone : table.find? (fun x => number x == n) = none) :
    free n = true := by
  by_contra hfree
  obtain ⟨x, hx, rfl⟩ := List.mem_map.mp (hcover n (eq_false_of_ne_true hfree))
  exact List.find?_eq_none.mp hnone x hx (beq_self_eq_true _)

/-- The codes of the 25 named inputs are 0x00 to 0x18 (30 R78). -/
theorem mem_codes_of_not_unknownCode :
    ∀ c : Byte, unknownCode c = false → c ∈ LogicalInput.named.map LogicalInput.code := by
  decide

theorem wf_push_of_mem_named : ∀ li ∈ LogicalInput.named, (Instr.push li).wf = true := by decide

theorem ofCode_spec (c : Byte) :
    (Instr.push (LogicalInput.ofCode c)).wf = true ∧ (LogicalInput.ofCode c).code = c := by
  unfold LogicalInput.ofCode
  split
  case h_1 li hfind =>
    exact ⟨wf_push_of_mem_named li (List.mem_of_find?_eq_some hfind), number_of_find?_eq_some hfind⟩
  case h_2 hnone => exact ⟨free_of_find?_number_eq_none mem_codes_of_not_unknownCode hnone, rfl⟩

/-- The numbers of the registers are those 44 R152 leaves (10 R36). -/
theorem mem_numbers_of_not_unassignedNumber : ∀ n : Byte, unassignedNumber n = false → n ∈ Reg.all.map Reg.number := by
  decide

theorem ofNumber_spec (n : Byte) :
    (Instr.rd (RegSel.ofNumber n)).wf = true ∧ (RegSel.ofNumber n).number = n := by
  unfold RegSel.ofNumber
  split
  case h_1 r hfind => exact ⟨rfl, number_of_find?_eq_some (number := Reg.number) hfind⟩
  case h_2 hnone => exact ⟨free_of_find?_number_eq_none mem_numbers_of_not_unassignedNumber hnone, rfl⟩

/-! ### The decoder inverted -/

theorem noOperand_eq_command_iff {op arg : Byte} {i j : Instr} :
    noOperand op arg i = .command j ↔ arg = 0x00#8 ∧ i = j := by
  unfold noOperand
  split <;> simp_all

/-- The fields of a word are the opcode and the operand of the command read from it, and the command is well formed. -/
theorem fields_of_decodeFields {op arg : Byte} {i : Instr} (h : decodeFields op arg = .command i) :
    i.wf = true ∧ i.opcode = op ∧ i.operand = arg := by
  unfold decodeFields at h
  split at h
  case h_1 | h_2 | h_9 | h_10 | h_12 | h_14 | h_15 | h_17 =>
    -- the rows of operand class `none`
    obtain ⟨rfl, rfl⟩ := noOperand_eq_command_iff.mp h
    exact ⟨rfl, rfl, rfl⟩
  case h_4 | h_5 | h_6 | h_7 | h_8 | h_11 | h_13 | h_16 =>
    -- the rows of class `byte` and `char`
    obtain rfl := Decoded.command.inj h
    exact ⟨rfl, rfl, rfl⟩
  case h_3 =>
    -- `PUSH`
    obtain rfl := Decoded.command.inj h
    obtain ⟨hwf, hcode⟩ := ofCode_spec arg
    exact ⟨hwf, rfl, hcode⟩
  case h_18 =>
    -- `RD`
    obtain rfl := Decoded.command.inj h
    obtain ⟨hwf, hnumber⟩ := ofNumber_spec arg
    exact ⟨hwf, rfl, hnumber⟩
  case h_19 => cases h

/-- Settles O2: the round trip is `decode_encode`, which looks up in a table only the operands of `PUSH` and `RD`. -/
theorem decodeOfEncode : Obligations.DecodeOfEncode := fun _ => decode_encode

/-- Settles O3: a word is its two fields, and those are the decoded command's. -/
theorem encodeOfDecode : Obligations.EncodeOfDecode := by
  intro w i h
  obtain ⟨hwf, hop, harg⟩ := fields_of_decodeFields h
  refine ⟨hwf, ?_⟩
  rw [encode, hop, harg]
  exact BitVec.extractLsb'_append_extractLsb' (w := 8) (len := 8)

theorem decode_eq_command_iff {w : Word} {i : Instr} : decode w = .command i ↔ i.wf = true ∧ encode i = w := by
  refine ⟨encodeOfDecode w i, ?_⟩
  rintro ⟨hwf, rfl⟩
  exact decode_encode hwf

/-- Settles O4: each worked word of R88 is the encoding of the well-formed command it names. -/
theorem commandWords : Obligations.CommandWords := by
  have hword {w : Word} {i : Instr} (hwf : i.wf = true) (hw : encode i = w) : EncodedAs w i :=
    ⟨decode_eq_command_iff.mpr ⟨hwf, hw⟩, hw⟩
  exact ⟨fun i => Laws.EncodeFields.fields_append i.opcode i.operand,
    hword rfl rfl, hword rfl rfl, hword rfl rfl, hword rfl rfl, hword rfl rfl, hword rfl rfl, hword rfl rfl, hword rfl rfl⟩

end Sys2Proof.Machine
end

section
/-! Which words are illegal and what a presented word is answered (30 R73, R82). -/

namespace Sys2Proof.Machine

/-! ### Illegal words -/

/-- The opcodes of the commands that take an operand (30 R72). -/
def operandOpcodes : List Byte :=
  [0x02#8, 0x03#8, 0x04#8, 0x05#8, 0x06#8, 0x07#8, 0x11#8, 0x21#8, 0x31#8, 0x40#8]

/-- The opcodes of the commands that take none (30 R72). -/
def bareOpcodes : List Byte := [0x00#8, 0x01#8, 0x08#8, 0x10#8, 0x20#8, 0x22#8, 0x30#8, 0x32#8]

/-- Every command has an opcode of its operand class, and operand byte 0x00 where it takes none (30 R71). -/
theorem opcode_class (i : Instr) : i.opcode ∈ operandOpcodes ∨ i.opcode ∈ bareOpcodes ∧ i.operand = 0x00#8 := by
  cases i with
  | nop | clr | emit | crcinit | dbeg | dchk | tclr | tsend => exact .inr ⟨by decide, rfl⟩
  | push | setlx | setly | setrx | setry | setvnd | crcbyte | dbyte | tchr | rd =>
    exact .inl (by simp [Instr.opcode, operandOpcodes])

theorem decodeFields_operandOpcode {op : Byte} (hop : op ∈ operandOpcodes) (arg : Byte) :
    ∃ i, decodeFields op arg = .command i := by
  fin_cases hop <;> exact ⟨_, rfl⟩

theorem decodeFields_bareOpcode {op : Byte} (hop : op ∈ bareOpcodes) : ∃ i, decodeFields op 0x00#8 = .command i := by
  fin_cases hop <;> exact ⟨_, rfl⟩

theorem step_illegal {s : State} {w : Word} {rest : List Word} {why : DecodeError} (hcmds : s.hostCmds = w :: rest)
    (hdecode : decode w = .illegal why) :
    step s = .next { s with hostCmds := rest, responses := s.responses ++ [⟨.illegalCommand, 0x0000#16⟩] } := by
  simp only [step, hcmds, hdecode, illegalWord, State.respond, State.respondWith, State.takeCommand, List.tail_cons]

/-- Settles O5: a word that is a command has that command's fields, and each opcode of the table decodes; the no-operation's word is `encode .nop`. -/
theorem illegalWords : Obligations.IllegalWords := by
  refine ⟨fun op arg => ?_, fun s w rest why => step_illegal, fun w => ?_⟩
  · rw [decode_append]
    constructor
    · rintro ⟨i, hi⟩
      obtain ⟨-, rfl, rfl⟩ := fields_of_decodeFields hi
      exact opcode_class i
    · rintro (hop | ⟨hop, rfl⟩)
      · exact decodeFields_operandOpcode hop arg
      · exact decodeFields_bareOpcode hop
  · have hword : encode .nop = 0x0000#16 := rfl
    rw [decode_eq_command_iff, hword]
    exact ⟨fun h => h.2.symm, fun h => ⟨rfl, h.symm⟩⟩

/-! ### The response to a presented word -/

theorem exec_next (i : Instr) (s : State) : ∃ t, exec i s = .next t := by
  cases i <;> exact ⟨_, rfl⟩

/-- Every command but an `RD` of a register ends with a `respond`, which carries no data, and adds no response before it. -/
theorem exec_responds {i : Instr} {s t : State} (hrd : ∀ x, i ≠ .rd (.reg x)) (h : exec i s = .next t) :
    ∃ (u : State) (c : RespCode), t = u.respond c ∧ u.hostCmds = s.hostCmds ∧ u.responses = s.responses := by
  cases i with
  | rd r =>
    obtain rfl := Host.Outcome.next.inj h
    cases r with
    | reg x => exact absurd rfl (hrd x)
    | unassigned n => exact ⟨s, .badRegister, rfl, rfl, rfl⟩
  | emit =>
    obtain ⟨-, rfl⟩ | ⟨-, rfl⟩ := exec_emit_cases h <;> exact ⟨_, _, rfl, by simp, by simp⟩
  | tsend =>
    obtain ⟨-, rfl⟩ | ⟨-, -, rfl⟩ | ⟨-, -, rfl⟩ := exec_tsend_cases h <;> exact ⟨_, _, rfl, by simp, by simp⟩
  | push li =>
    obtain rfl := Host.Outcome.next.inj h
    cases li <;> exact ⟨_, _, rfl, rfl, rfl⟩
  | dbyte b =>
    obtain ⟨-, rfl⟩ | ⟨-, rfl⟩ := exec_dbyte_cases h <;> exact ⟨_, _, rfl, by simp, by simp⟩
  | dchk =>
    obtain ⟨-, rfl⟩ | ⟨-, -, rfl⟩ | ⟨-, -, rfl⟩ | ⟨-, -, rfl⟩ := exec_dchk_cases h <;>
      exact ⟨_, _, rfl, by simp, by simp⟩
  | tchr c =>
    obtain ⟨-, rfl⟩ | ⟨-, -, rfl⟩ | ⟨-, -, rfl⟩ := exec_tchr_cases h <;> exact ⟨_, _, rfl, by simp, by simp⟩
  | nop | clr | setlx | setly | setrx | setry | setvnd | crcinit | crcbyte | dbeg | tclr =>
    obtain rfl := Host.Outcome.next.inj h
    exact ⟨_, _, rfl, by simp, by simp⟩

theorem RespCode.number_eq_zero_iff (c : RespCode) : c.number = 0x00#8 ↔ c = .ok := by cases c <;> decide

/-- Settles O8: an illegal word is answered by `step_illegal`, an `RD` of a register by its value, any other command as `exec_responds` says; a response's word is two fields side by side. -/
theorem oneResponsePerCommand : Obligations.OneResponsePerCommand := by
  refine ⟨fun s w rest hcmds => ?_, fun r =>
    ⟨BitVec.extractLsb'_append_eq_left, BitVec.extractLsb'_append_eq_right, r.code.number_eq_zero_iff⟩⟩
  cases hdecode : decode w with
  | illegal why => exact ⟨_, _, step_illegal hcmds hdecode, rfl, rfl, .inr ⟨nofun, rfl⟩⟩
  | command i =>
    rw [stepRunsDecodedCommand s w rest i hcmds hdecode]
    by_cases hrd : ∃ x, i = .rd (.reg x)
    case pos =>
      obtain ⟨x, rfl⟩ := hrd
      exact ⟨_, ⟨.ok, s.readReg x⟩, rfl, rfl, rfl, .inl ⟨x, rfl, rfl⟩⟩
    case neg =>
      obtain ⟨t, ht⟩ := exec_next i { s with hostCmds := rest }
      obtain ⟨u, c, rfl, hhost, hresp⟩ := exec_responds (not_exists.mp hrd) ht
      have hnot (x : Reg) : Decoded.command i ≠ .command (.rd (.reg x)) := fun h => hrd ⟨x, Decoded.command.inj h⟩
      exact ⟨_, ⟨c, 0x0000#16⟩, ht, hhost, congrArg (· ++ _) hresp, .inr ⟨hnot, rfl⟩⟩

end Sys2Proof.Machine
end

section
/-! The CRC8 pseudo-instruction (30 R87, 40 R91, R95, R96), and one step of a host's script. -/

namespace Sys2Proof.Machine

@[simp] theorem State.lastOk_respondWith (s : State) (c : RespCode) (d : Word) :
    (s.respondWith c d).lastOk = (c == .ok) := by
  simp [State.lastOk]

@[simp] theorem State.lastOk_respond (s : State) (c : RespCode) : (s.respond c).lastOk = (c == .ok) :=
  s.lastOk_respondWith c _

/-- The host goes on after a command that answered `OK`, whether or not it stops at errors (30 R87). -/
theorem runScript_command {i : Instr} {s t : State} (stop : Bool) (rest : List HostStep) (h : exec i s = .next t)
    (hok : t.lastOk = true) : runScript stop (.command i :: rest) s = runScript stop rest t := by
  simp [runScript, h, hok]

/-- The accumulator folds the bytes in order, each `CRCBYTE` continuing from the one before (40 R96). -/
theorem runScript_crcbytes (stop : Bool) (bytes : List Byte) (rest : List HostStep) (s : State) :
    ∃ t, runScript stop ((bytes.map Instr.crcbyte).map .command ++ rest) s = runScript stop rest t ∧
      t.crc = crcFold s.crc bytes ∧ t.channel = s.channel := by
  induction bytes generalizing s with
  | nil => exact ⟨s, rfl, rfl, rfl⟩
  | cons b bytes ih =>
    obtain ⟨t, hrun, hcrc, hch⟩ := ih (State.respond { s with crc := crcStep s.crc b } .ok)
    exact ⟨t, (runScript_command stop _ rfl (State.lastOk_respond _ _)).trans hrun, hcrc, hch⟩

/-- Settles O20: `CRCINIT` starts the fold at `crc8`'s own start value, and the `RD` reads what the `CRCBYTE`s leave. -/
theorem crcCallComputesChecksum : Obligations.CrcCallComputesChecksum := by
  intro bytes s
  obtain ⟨t, hbytes, hcrc, hch⟩ := runScript_crcbytes true bytes [.command (.rd (.reg .crc))]
    (State.respond { s with crc := Config.CRC_INIT } .ok)
  have hexpand : (Pseudo.crc8 bytes).expand =
      .command .crcinit :: ((bytes.map Instr.crcbyte).map .command ++ [.command (.rd (.reg .crc))]) := by
    simp [Pseudo.expand]
  have hread : runScript true [.command (.rd (.reg .crc))] t = .next (t.respondWith .ok (t.crc.setWidth 16)) :=
    runScript_command true [] rfl (State.lastOk_respondWith _ _ _)
  refine ⟨t.respondWith .ok (t.crc.setWidth 16), ?_, hcrc, ?_, hch⟩
  · rw [Pseudo.run, hexpand]
    exact (runScript_command true _ rfl (State.lastOk_respond _ _)).trans (hbytes.trans hread)
  · rw [State.respondWith_responses, List.getLast?_concat, hcrc]
    rfl

end Sys2Proof.Machine
end

section
/-! The sentinel and the two kinds of frame (30 R80, R81, 43 R135). -/

namespace Sys2Proof.Machine

/-- The first reason of 30 R81: byte 2 of a packet is at most 0x08, the sentinel's is 0x33. -/
theorem PacketFields.assemble_bytes_ne_sentinel {p : PacketFields} (hcode : p.code.toNat ≤ 8) :
    p.assemble.bytes ≠ Config.SENTINEL := by
  intro heq
  have hbyte : p.code.setWidth 8 = 0x33#8 := Option.some.inj (congrArg (·[2]?) heq)
  have hnat : p.code.toNat = 0x33 := by
    rw [← BitVec.toNat_setWidth_of_le (w' := 8) (by decide), hbyte]
    rfl
  omega

/-- The checksum of the sentinel's first eight bytes is not its ninth, 0x39 (30 R81). -/
theorem crc8_sentinel :
    crc8 [0x31#8, 0x32#8, 0x33#8, 0x34#8, 0x35#8, 0x36#8, 0x37#8, 0x38#8] = 0xC7#8 := by decide +kernel

/-- The second reason of 30 R81. -/
theorem decodePacket_sentinel {f : Frame} (hf : f.bytes = Config.SENTINEL) : decodePacket f = .corrupt := by
  have hcheck : f.check = 0x39#8 := Option.some.inj (congrArg (·[8]?) hf)
  have hpayload : crc8 f.payload = 0xC7#8 := by
    rw [Frame.payload, hf]
    exact crc8_sentinel
  rw [decodePacket_eq, hcheck, hpayload]
  exact if_pos (by decide)

theorem encodeDisplayText_take (text : List Byte) : (encodeDisplayText text).take 9 = Config.SENTINEL :=
  List.take_left' rfl

/-- The text of a display frame is never empty (43 R135). -/
theorem ten_le_length_encodeDisplayText (text : List Byte) : 10 ≤ (encodeDisplayText text).length := by
  have hlen : Config.SENTINEL.length = 9 := rfl
  rw [encodeDisplayText, List.length_append, hlen]
  split
  case isTrue => exact le_refl 10
  case isFalse htext =>
    have hpos := List.length_pos_iff.mpr htext
    omega

/-- Settles O42: a receiver compares with the sentinel, which no packet equals and every display frame begins with. -/
theorem sentinelCollidesWithNoPacket : Obligations.SentinelCollidesWithNoPacket := by
  refine ⟨fun p hcode => ?_, crc8_sentinel, fun f => decodePacket_sentinel, fun text =>
    ⟨if_pos (encodeDisplayText_take text), ten_le_length_encodeDisplayText text⟩⟩
  have hne := PacketFields.assemble_bytes_ne_sentinel hcode
  exact ⟨hne, if_neg hne⟩

end Sys2Proof.Machine
end

section
/-! The checksum's iteration and step (40 R90, R93): both are linear over XOR and injective, and every fact about sequences follows. -/

namespace Sys2Proof.Machine

/-! ### One iteration -/

/-- What an iteration XORs into the shifted accumulator: the polynomial when the high bit fell out, else nothing. -/
def reduction (high : Bool) : Byte := if high then Config.CRC_POLY else 0x00#8

theorem reduction_xor (p q : Bool) : reduction (p ^^ q) = reduction p ^^^ reduction q := by
  cases p <;> cases q <;> rfl

theorem reduction_getLsbD_zero (high : Bool) : (reduction high).getLsbD 0 = high := by
  cases high <;> rfl

theorem crcIter_eq (acc : Byte) : crcIter acc = acc <<< 1 ^^^ reduction (acc.getLsbD 7) := by
  unfold crcIter reduction
  split
  · rfl
  · rw [BitVec.xor_zero]

theorem crcIter_xor (a b : Byte) : crcIter (a ^^^ b) = crcIter a ^^^ crcIter b := by
  simp only [crcIter_eq, BitVec.getLsbD_xor, reduction_xor, BitVec.shiftLeft_xor_distrib]
  ac_rfl

theorem crcIter_zero : crcIter 0x00#8 = 0x00#8 := rfl

theorem getLsbD_seven_eq (a : Byte) : a.getLsbD 7 = decide (128 ≤ a.toNat) :=
  a.msb_eq_getLsbD_last.symm.trans a.msb_eq_decide

/-- The polynomial is odd and a shift leaves bit 0 clear, so a result of zero says that no bit fell out. -/
theorem eq_zero_of_crcIter_eq_zero {a : Byte} (h : crcIter a = 0x00#8) : a = 0x00#8 := by
  have hshift : a <<< 1 = reduction (a.getLsbD 7) := BitVec.xor_eq_zero_iff.mp (crcIter_eq a ▸ h)
  have hhigh : a.getLsbD 7 = false := by
    rw [← reduction_getLsbD_zero (a.getLsbD 7), ← hshift, BitVec.getLsbD_shiftLeft]
    rfl
  have hlt : a.toNat < 128 := not_le.mp (of_decide_eq_false (getLsbD_seven_eq a ▸ hhigh))
  have hdouble : a.toNat * 2 % 256 = 0 := by
    have hnat := congrArg BitVec.toNat hshift
    rw [hhigh, BitVec.toNat_shiftLeft, Nat.shiftLeft_eq] at hnat
    exact hnat
  exact BitVec.eq_of_toNat_eq (show a.toNat = 0 by omega)

theorem crcIter_injective : Function.Injective crcIter := by
  intro a b h
  have hzero : crcIter (a ^^^ b) = 0x00#8 := by rw [crcIter_xor, h, BitVec.xor_self]
  exact BitVec.xor_eq_zero_iff.mp (eq_zero_of_crcIter_eq_zero hzero)

/-- The iteration in plain arithmetic (40 R90). -/
theorem toNat_crcIter (acc : Byte) :
    (crcIter acc).toNat = if 128 ≤ acc.toNat then ((acc.toNat * 2) ^^^ 0x07) % 256 else (acc.toNat * 2) % 256 := by
  have hmod : (acc.toNat * 2 ^^^ 0x07) % 256 = acc.toNat * 2 % 256 ^^^ 0x07 := Nat.xor_mod_two_pow (n := 8)
  rw [crcIter_eq, getLsbD_seven_eq, BitVec.toNat_xor, BitVec.toNat_shiftLeft, Nat.shiftLeft_eq, hmod]
  by_cases hhigh : 128 ≤ acc.toNat
  · simp [hhigh, reduction, Config.CRC_POLY]
  · simp [hhigh, reduction]

/-! ### The eight iterations of a step -/

theorem crcIters_eq_iterate (n : Nat) (acc : Byte) : crcIters n acc = crcIter^[n] acc := by
  induction n generalizing acc with
  | zero => rfl
  | succ n ih => exact ih (crcIter acc)

theorem crcIters_zero (n : Nat) : crcIters n 0x00#8 = 0x00#8 := by
  rw [crcIters_eq_iterate, Function.iterate_fixed crcIter_zero]

theorem crcIters_xor (n : Nat) (a b : Byte) : crcIters n (a ^^^ b) = crcIters n a ^^^ crcIters n b := by
  induction n generalizing a b with
  | zero => rfl
  | succ n ih => simp only [crcIters, crcIter_xor, ih]

theorem crcIters_injective (n : Nat) : Function.Injective (crcIters n) := by
  rw [funext (crcIters_eq_iterate n)]
  exact crcIter_injective.iterate n

theorem crcStep_eq_iterate (acc b : Byte) : crcStep acc b = crcIter^[8] (acc ^^^ b) := crcIters_eq_iterate 8 _

theorem crcStep_xor (a b c d : Byte) : crcStep (a ^^^ c) (b ^^^ d) = crcStep a b ^^^ crcStep c d := by
  have hregroup : a ^^^ c ^^^ (b ^^^ d) = (a ^^^ b) ^^^ (c ^^^ d) := by ac_rfl
  rw [crcStep, hregroup, crcIters_xor]
  rfl

/-- A step sees only the XOR of the accumulator and the byte (40 R93 (b)). -/
theorem crcStep_eq_step_xor_zero (a b : Byte) : crcStep a b = crcStep (a ^^^ b) 0x00#8 := by
  rw [crcStep, crcStep, BitVec.xor_zero]

/-- A step ends in zero exactly when the byte is the accumulator. -/
theorem crcStep_eq_zero_iff {acc b : Byte} : crcStep acc b = 0x00#8 ↔ acc = b := by
  rw [crcStep, ← crcIters_zero 8, (crcIters_injective 8).eq_iff, BitVec.xor_eq_zero_iff]

theorem crcStep_left_injective (b : Byte) : Function.Injective fun acc => crcStep acc b :=
  fun _ _ h => (BitVec.xor_left_inj b).mp (crcIters_injective 8 h)

theorem crcStep_right_injective (acc : Byte) : Function.Injective (crcStep acc) :=
  fun _ _ h => (BitVec.xor_right_inj acc).mp (crcIters_injective 8 h)

/-! ### Sequences of bytes -/

theorem crc8_append (s t : List Byte) : crc8 (s ++ t) = crcFold (crc8 s) t := List.foldl_append

theorem crc8_concat (s : List Byte) (b : Byte) : crc8 (s ++ [b]) = crcStep (crc8 s) b := crc8_append s [b]

theorem crc8_replicate_zero (n : Nat) : crc8 (List.replicate n 0x00#8) = 0x00#8 := by
  induction n with
  | zero => rfl
  | succ n ih => rw [List.replicate_succ', crc8_concat, ih, crcStep_eq_zero_iff]

theorem crcFold_injective (bytes : List Byte) : Function.Injective fun acc => crcFold acc bytes := by
  induction bytes with
  | nil => exact Function.injective_id
  | cons b bytes ih => exact ih.comp (crcStep_left_injective b)

/-- Settles O12: each clause is the lemma about its function. -/
theorem checksumAlgorithm : Obligations.ChecksumAlgorithm :=
  ⟨toNat_crcIter, crcStep_eq_iterate, rfl, crc8_concat⟩

/-- Settles O14: the iterations are linear over XOR and keep zero. -/
theorem checksumLinear : Obligations.ChecksumLinear :=
  ⟨crc8_replicate_zero, crcStep_xor, crcStep_eq_step_xor_zero⟩

/-- Settles O15: the last step ends in zero exactly when its byte is the checksum so far, and a frame is its payload and its check byte. -/
theorem checksumResidue : Obligations.ChecksumResidue := by
  refine ⟨fun acc => crcStep_eq_zero_iff.mpr rfl, fun bytes => ?_, fun f => ?_⟩
  · rw [crc8_concat, crcStep_eq_zero_iff]
  · rw [Frame.bytes_eq, crc8_concat, crcStep_eq_zero_iff, eq_comm]

/-- Settles O16: the step separates the two bytes, and the fold over the common rest keeps the accumulators apart. -/
theorem checksumCatchesOneByte : Obligations.ChecksumCatchesOneByte := by
  refine ⟨fun b => Finite.injective_iff_bijective.mp (crcStep_left_injective b), fun before after x y hne heq => ?_⟩
  rw [crc8_append, crc8_append] at heq
  exact hne (crcStep_right_injective _ (crcFold_injective after heq))

/-- Settles O17: `crcFold` from `crc8 s` is the fold the statement writes out. -/
theorem checksumInPieces : Obligations.ChecksumInPieces := crc8_append

end Sys2Proof.Machine
end

section
/-! The checksum as a remainder (40 R90, R94): bytes are numbers whose bits are coefficients over the two-element field, XOR is their sum, and the bits that fall out of the accumulator are the quotient by 0x107. -/

namespace Sys2Proof.Machine

/-- The next bit of a product with 0x107, high bit of the quotient first: shift, then add the polynomial for a bit 1. -/
def mulPolyBit (acc : Nat) (q : Bool) : Nat := (2 * acc) ^^^ (if q then 0x107 else 0)

/-- The bits that fall out of the accumulator in `n` iterations, the first one first. -/
def highBits : Nat → Byte → List Bool
  | 0, _ => []
  | n + 1, acc => acc.getLsbD 7 :: highBits n (crcIter acc)

/-- A sequence of bytes as one number, the first byte highest. -/
def messageNat (bytes : List Byte) : Nat := bytes.foldl (fun n b => n * 256 + b.toNat) 0

theorem messageNat_concat (bytes : List Byte) (b : Byte) :
    messageNat (bytes ++ [b]) = messageNat bytes * 256 + b.toNat := by
  rw [messageNat, List.foldl_append]
  rfl

theorem highBits_length (n : Nat) (acc : Byte) : (highBits n acc).length = n := by
  induction n generalizing acc with
  | zero => rfl
  | succ n ih => exact congrArg (· + 1) (ih (crcIter acc))

/-- A byte fills the low bits that a shift by eight leaves clear. -/
theorem mul_256_xor_byte (n : Nat) (b : Byte) : n * 256 ^^^ b.toNat = n * 256 + b.toNat := by
  have hb : b.toNat < 256 := b.isLt
  have hdiv : (n * 256 ^^^ b.toNat) / 256 = n := by
    calc (n * 256 ^^^ b.toNat) / 256 = n * 256 / 256 ^^^ b.toNat / 256 := Nat.xor_div_two_pow (n := 8)
      _ = n := by rw [Nat.mul_div_cancel n (by decide), Nat.div_eq_of_lt hb, Nat.xor_zero]
  have hmod : (n * 256 ^^^ b.toNat) % 256 = b.toNat := by
    calc (n * 256 ^^^ b.toNat) % 256 = n * 256 % 256 ^^^ b.toNat % 256 := Nat.xor_mod_two_pow (n := 8)
      _ = b.toNat := by rw [Nat.mul_mod_left, Nat.mod_eq_of_lt hb, Nat.zero_xor]
  omega

/-- An iteration is doubling reduced by the polynomial: 0x107 also takes away the bit that fell out. -/
theorem toNat_crcIter_eq_mulPolyBit (acc : Byte) : (crcIter acc).toNat = mulPolyBit acc.toNat (acc.getLsbD 7) := by
  have hacc : acc.toNat < 256 := acc.isLt
  rw [toNat_crcIter, mulPolyBit, getLsbD_seven_eq, Nat.mul_comm]
  by_cases hhigh : 128 ≤ acc.toNat
  · have hdiv : (2 * acc.toNat ^^^ 0x107) / 256 = 2 * acc.toNat / 256 ^^^ 1 := Nat.xor_div_two_pow (n := 8)
    have hmod : (2 * acc.toNat ^^^ 0x107) % 256 = (2 * acc.toNat ^^^ 0x07) % 256 :=
      (Nat.xor_mod_two_pow (b := 0x107) (n := 8)).trans (Nat.xor_mod_two_pow (b := 0x07) (n := 8)).symm
    have hout : 2 * acc.toNat / 256 = 1 := by omega
    have hlow : (2 * acc.toNat ^^^ 0x107) / 256 = 0 := by rw [hdiv, hout, Nat.xor_self]
    simp only [hhigh, decide_true, if_true]
    omega
  · simp only [hhigh, decide_false, Bool.false_eq_true, if_false, Nat.xor_zero]
    omega

theorem foldl_mulPolyBit_highBits (n : Nat) (acc : Byte) :
    (highBits n acc).foldl mulPolyBit acc.toNat = (crcIters n acc).toNat := by
  induction n generalizing acc with
  | zero => rfl
  | succ n ih => rw [highBits, List.foldl_cons, ← toNat_crcIter_eq_mulPolyBit, ih, crcIters]

theorem mulPolyBit_xor (x y : Nat) (q : Bool) : mulPolyBit (x ^^^ y) q = 2 * x ^^^ mulPolyBit y q := by
  have hdouble : 2 * (x ^^^ y) = 2 * x ^^^ 2 * y := by
    simpa [Nat.shiftLeft_eq, Nat.mul_comm] using Nat.shiftLeft_xor_distrib (a := x) (b := y) (i := 1)
  rw [mulPolyBit, mulPolyBit, hdouble, Nat.xor_assoc]

/-- What is XORed into the start of a product only moves up, one place for each bit. -/
theorem foldl_mulPolyBit_xor (qs : List Bool) (x y : Nat) :
    qs.foldl mulPolyBit (x ^^^ y) = x * 2 ^ qs.length ^^^ qs.foldl mulPolyBit y := by
  induction qs generalizing x y with
  | nil => rw [List.length_nil, Nat.pow_zero, Nat.mul_one]; rfl
  | cons q qs ih =>
    rw [List.foldl_cons, mulPolyBit_xor, ih, List.foldl_cons, List.length_cons, Nat.pow_succ', Nat.mul_comm 2 x,
      Nat.mul_assoc]

/-- Folding one more byte goes on with the division: its eight high bits are the next eight of the quotient. -/
theorem foldl_mulPolyBit_highBits_byte (m : Nat) (acc b : Byte) :
    (highBits 8 (acc ^^^ b)).foldl mulPolyBit (m * 256 ^^^ acc.toNat)
      = (m * 256 + b.toNat) * 256 ^^^ (crcStep acc b).toNat := by
  have hstart : m * 256 ^^^ acc.toNat = (m * 256 + b.toNat) ^^^ (acc ^^^ b).toNat := by
    rw [← mul_256_xor_byte, BitVec.toNat_xor, Nat.xor_assoc, Nat.xor_comm acc.toNat, ← Nat.xor_assoc b.toNat, Nat.xor_self,
      Nat.zero_xor]
  rw [hstart, foldl_mulPolyBit_xor, highBits_length, foldl_mulPolyBit_highBits]
  rfl

theorem exists_quotient (bytes : List Byte) :
    ∃ quotient : List Bool, quotient.foldl mulPolyBit 0 = messageNat bytes * 256 ^^^ (crc8 bytes).toNat := by
  induction bytes using List.reverseRecOn with
  | nil => exact ⟨[], rfl⟩
  | append_singleton bytes b ih =>
    obtain ⟨quotient, hquotient⟩ := ih
    refine ⟨quotient ++ highBits 8 (crc8 bytes ^^^ b), ?_⟩
    rw [List.foldl_append, hquotient, foldl_mulPolyBit_highBits_byte, messageNat_concat, crc8_concat]

/-- Settles O13, by induction on the bytes from the last: each byte adds eight bits to the quotient. -/
theorem checksumIsPolynomialRemainder : Obligations.ChecksumIsPolynomialRemainder := exists_quotient

end Sys2Proof.Machine
end

section
/-! The Checksum Engine's two commands (40 R95, R96). -/

namespace Sys2Proof.Machine

/-- An opcode whose decoding refuses every operand is answered by `step_illegal`. -/
theorem operandRefused_of_decodeFields {op : Byte} {i : Instr} (h : ∀ arg, decodeFields op arg = noOperand op arg i) :
    OperandRefused op := by
  intro arg s rest harg hcmds
  have hdecode : decode (op ++ arg) = .illegal (.nonzeroOperand op arg) := by
    rw [decode_append, h, noOperand, if_neg harg]
  exact step_illegal hcmds hdecode

/-- Settles O18: the word's two fields and the arm's next state are those of the table, and an operand is refused. -/
theorem crcinitClears : Obligations.CrcinitClears :=
  ⟨⟨rfl, rfl⟩, operandRefused_of_decodeFields fun _ => rfl, fun _ => rfl⟩

theorem exec_crcbyte (b : Byte) (s : State) :
    exec (.crcbyte b) s = .next (State.respond { s with crc := crcStep s.crc b } .ok) := rfl

/-- Settles O19: the word is the command's own, and the step's eight iterations are `crcStep_eq_iterate`. -/
theorem crcbyteFolds : Obligations.CrcbyteFolds := by
  refine fun b => ⟨⟨decode_encode (i := .crcbyte b) rfl, rfl⟩, fun s => ?_⟩
  rw [exec_crcbyte, crcStep_eq_iterate]
  rfl

end Sys2Proof.Machine
end

section
/-! The encode side's commands that fill a packet: `CLR`, `PUSH` and the five setters (41 R110, R111, R113 to R117). -/

namespace Sys2Proof.Machine

/-! ### What a `PUSH` code names -/

theorem Button.bit_lt (k : Button) : k.bit < 16 := by cases k <;> decide

theorem Button.toNat_ofNat_bit (k : Button) : (BitVec.ofNat 8 k.bit).toNat = k.bit :=
  Nat.mod_eq_of_lt ((Button.bit_lt k).trans (by decide))

theorem toNat_code_dpad (d : DpadDirection) : (LogicalInput.dpad d).code.toNat = 0x10 + d.code.toNat := by
  cases d <;> rfl

/-- The three ranges of codes (30 R78). -/
theorem ofCode_cases (c : Byte) :
    (∃ k, LogicalInput.ofCode c = .button k ∧ c.toNat = k.bit) ∨
    (∃ d, LogicalInput.ofCode c = .dpad d ∧ c = (LogicalInput.dpad d).code) ∨
    (∃ x, LogicalInput.ofCode c = .unknown x ∧ 0x18 < c.toNat) := by
  obtain ⟨hwf, hcode⟩ := ofCode_spec c
  cases hli : LogicalInput.ofCode c with
  | button k =>
    rw [hli] at hcode
    exact .inl ⟨k, rfl, by rw [← hcode]; exact Button.toNat_ofNat_bit k⟩
  | dpad d =>
    rw [hli] at hcode
    exact .inr (.inl ⟨d, rfl, hcode.symm⟩)
  | unknown x =>
    rw [hli] at hwf hcode
    obtain rfl : x = c := hcode
    exact .inr (.inr ⟨x, rfl, of_decide_eq_true hwf⟩)

theorem dpadCode_eq_extract (d : DpadDirection) : ((LogicalInput.dpad d).code - 0x10#8).extractLsb' 0 4 = d.code := by
  cases d <;> rfl

/-- Settles O22: the code's range says what it names, and each kind of input has its own update in `State.applyInput`. -/
theorem pushAddsInput : Obligations.PushAddsInput := by
  intro li
  obtain ⟨hwf, hcode⟩ := ofCode_spec li
  have hword : encode (.push (LogicalInput.ofCode li)) = 0x02#8 ++ li := congrArg (0x02#8 ++ ·) hcode
  refine ⟨⟨decode_eq_command_iff.mpr ⟨hwf, hword⟩, hword⟩, fun s => ?_⟩
  obtain ⟨k, hk, hbit⟩ | ⟨d, hd, rfl⟩ | ⟨x, hx, hhigh⟩ := ofCode_cases li
  · have hlow := Button.bit_lt k
    refine ⟨fun _ => ?_, by omega, by omega⟩
    rw [hk, hbit]
    rfl
  · have hlow := dpadCode_lt d
    have hnat := toNat_code_dpad d
    rw [N_DPAD_eq] at hlow
    refine ⟨by omega, fun _ _ => ?_, by omega⟩
    rw [hd, dpadCode_eq_extract]
    rfl
  · refine ⟨by omega, by omega, fun _ => ?_⟩
    rw [hx]
    exact ⟨_, rfl, rfl, s.flag_setFlag .unk .unk true,
      fun f hf => (s.flag_setFlag .unk f true).trans (if_neg hf)⟩

/-! ### `CLR` and the setters -/

/-- Settles O21: the arm writes the defaults, and of the flags `State.setFlag` writes only `UNK`. -/
theorem clrStartsEncodeCall : Obligations.ClrStartsEncodeCall := by
  refine ⟨⟨rfl, rfl⟩, operandRefused_of_decodeFields fun _ => rfl, fun s => ⟨_, rfl, rfl, ?_, fun f hf => ?_⟩⟩
  · exact State.flag_setFlag _ .unk .unk false
  · exact (State.flag_setFlag _ .unk f false).trans (if_neg hf)

/-- Settles O23: a setter takes every operand, and its arm is the update of its one register. -/
theorem settersWriteOneRegister : Obligations.SettersWriteOneRegister := by
  intro v
  have hword {i : Instr} (hwf : i.wf = true) : EncodedAs (i.opcode ++ i.operand) i := ⟨decode_encode hwf, rfl⟩
  exact ⟨hword (i := .setlx v) rfl, hword (i := .setly v) rfl, hword (i := .setrx v) rfl, hword (i := .setry v) rfl,
    hword (i := .setvnd v) rfl, fun s => ⟨rfl, rfl, rfl, rfl, rfl⟩⟩

end Sys2Proof.Machine
end

section
/-! `EMIT` (41 R105, R106, R112): what a packet sent leaves, and what its ack read can change. -/

namespace Sys2Proof.Machine

theorem exec_emit_of_unk {s : State} (h : s.flag .unk = true) : exec .emit s = .next (s.respond .unknownInput) := by
  simp only [exec, execEmit, h, if_true]

/-- The next state of a packet sent, its STATUS aside, which `State.flag_sendPacket` gives. -/
theorem State.sendPacket_eq (s : State) :
    s.sendPacket =
      { s with
        frm := s.packetFields.assemble, flen := fullCount, crc := crc8 s.packetFields.payload
        ack := s.rxAnswer.getD 0x00#8, status := s.sendPacket.status
        channel := s.channel ++ [.read s.rxAnswer, .write s.packetFields.assemble.bytes]
        rxTape := s.rxTape.tail, rxDraws := s.rxDraws + 1
        responses := s.responses ++ [⟨.ok, 0x0000#16⟩] } := by
  have hanswer : (s.storeFrame s.packetFields.assemble).rxAnswer = s.rxAnswer := rfl
  have hcheck : s.packetFields.assemble.check = crc8 s.packetFields.payload := rfl
  simp [State.ext_iff, State.sendPacket, hanswer, hcheck]

theorem State.tx_sendPacket (s : State) : s.sendPacket.tx = s.tx ++ [s.packetFields.assemble.bytes] := by
  simp [State.tx, State.channel_sendPacket, framesOf_append, framesOf]

theorem State.frm_sendPacket (s : State) : s.sendPacket.frm = s.packetFields.assemble := by
  simp [State.sendPacket]

theorem State.responses_sendPacket (s : State) : s.sendPacket.responses = s.responses ++ [⟨.ok, 0x0000#16⟩] := by
  simp [State.sendPacket]

/-- The `ACKV` and `ACKM` a packet sent leaves are those of the answer its ack read got (10 R33). -/
theorem State.ackFlags_sendPacket (s : State) :
    s.sendPacket.flag .ackv = s.rxAnswer.isSome ∧ s.sendPacket.flag .ackm = ackMismatch s.rxAnswer :=
  ⟨s.flag_sendPacket .ackv, s.flag_sendPacket .ackm⟩

/-- Settles O24: refused or sent by `UNK`; a packet sent is `State.sendPacket`, whose flags `State.flag_sendPacket` gives. -/
theorem emitSendsPacket : Obligations.EmitSendsPacket := by
  refine ⟨⟨rfl, rfl⟩, operandRefused_of_decodeFields fun _ => rfl, fun s => ⟨exec_emit_of_unk, fun hunk => ?_⟩⟩
  obtain ⟨hackv, hackm⟩ := s.ackFlags_sendPacket
  refine ⟨s.sendPacket, exec_emit_of_not_unk hunk, s.sendPacket_eq, (s.flag_sendPacket .unk).trans hunk, s.flag_sendPacket .nasc,
    s.flag_sendPacket .tovf, s.flag_sendPacket .dvalid, s.flag_sendPacket .crcerr, s.flag_sendPacket .dperr,
    fun b hb => ?_, fun hnone => ?_⟩
  · rw [hackv, hackm, hb]
    exact ⟨rfl, bne_iff_ne⟩
  · rw [hackv, hackm, hnone]
    exact ⟨rfl, rfl⟩

/-- Settles O26: the packet sent is made of registers the answers do not touch. -/
theorem ackNeverAltersTransmission : Obligations.AckNeverAltersTransmission := by
  intro s tape n hunk
  let s' : State := { s with rxTape := tape, rxDraws := n }
  have hsame : s'.packetFields = s.packetFields := rfl
  refine ⟨s.sendPacket, s'.sendPacket, exec_emit_of_not_unk hunk, exec_emit_of_not_unk (s := s') hunk, ?_,
    ⟨_, s.tx_sendPacket⟩, ?_, fun f hackv hackm => ?_⟩
  · rw [State.tx_sendPacket, State.tx_sendPacket, hsame]
    rfl
  · simp [State.ext_iff, State.sendPacket, hsame, s']
  · rw [State.flag_sendPacket, State.flag_sendPacket]
    cases f with
    | ackv => exact absurd rfl hackv
    | ackm => exact absurd rfl hackm
    | unk | nasc | tovf | dvalid | crcerr | dperr => rfl

end Sys2Proof.Machine
end

section
/-! The source's encode operation (41 R101 to R103): the mask and the code its inputs gather, and the neutral frame. -/

namespace Sys2Proof.Machine

theorem gatherFrom_append (mask : Word) (code : Nibble) (xs ys : List LogicalInput) :
    gatherFrom mask code (xs ++ ys) = (gatherFrom mask code xs).bind fun p => gatherFrom p.1 p.2 ys := by
  induction xs generalizing mask code with
  | nil => rfl
  | cons x xs ih =>
    cases x with
    | button k => exact ih _ _
    | dpad d => exact ih _ _
    | unknown c => rfl

theorem gatherFrom_eq_none_iff {mask : Word} {code : Nibble} {inputs : List LogicalInput} :
    gatherFrom mask code inputs = none ↔ ∃ c, LogicalInput.unknown c ∈ inputs := by
  induction inputs generalizing mask code with
  | nil => simp [gatherFrom]
  | cons x xs ih => cases x <;> simp [gatherFrom, ih]

theorem getLsbD_buttonMask (j k : Button) : (buttonMask j).getLsbD k.bit = decide (k = j) := by
  cases j <;> cases k <;> rfl

/-- A mask bit is set when it was set before or its Button is among the inputs. -/
theorem getLsbD_of_gatherFrom {mask mask' : Word} {code code' : Nibble} {inputs : List LogicalInput}
    (h : gatherFrom mask code inputs = some (mask', code')) (k : Button) :
    mask'.getLsbD k.bit = true ↔ mask.getLsbD k.bit = true ∨ LogicalInput.button k ∈ inputs := by
  induction inputs generalizing mask code with
  | nil =>
    obtain ⟨rfl, rfl⟩ := Prod.mk.inj (Option.some.inj h)
    simp
  | cons x xs ih =>
    cases x with
    | button j => simp [ih h, getLsbD_buttonMask, or_assoc]
    | dpad d => simp [ih h]
    | unknown c => cases h

/-- Without a direction among the inputs the code stays. -/
theorem code_of_gatherFrom {mask mask' : Word} {code code' : Nibble} {inputs : List LogicalInput}
    (h : gatherFrom mask code inputs = some (mask', code')) (hnone : ∀ d, LogicalInput.dpad d ∉ inputs) : code' = code := by
  induction inputs generalizing mask with
  | nil => exact (Prod.mk.inj (Option.some.inj h)).2.symm
  | cons x xs ih =>
    have htail (d : DpadDirection) : LogicalInput.dpad d ∉ xs := fun hd => hnone d (.tail _ hd)
    cases x with
    | button j => exact ih h htail
    | dpad d => exact absurd (.head _) (hnone d)
    | unknown c => cases h

theorem Button.mem_all (k : Button) : k ∈ Button.all := by cases k <;> decide

theorem DpadDirection.mem_all (d : DpadDirection) : d ∈ DpadDirection.all := by cases d <;> decide

/-- The entries of a table that lists every value of a type with its number are the pairs of the numbering. -/
theorem mem_map_pair_iff {α β : Type} {all : List α} (hall : ∀ x, x ∈ all) (number : α → β) (a : α) (b : β) :
    (a, b) ∈ all.map (fun x => (x, number x)) ↔ number a = b := by
  simp [hall]

/-- Settles O28: the statement's two tables are the numberings `Button.bit` and `DpadDirection.code`; an input list is split at its last direction. -/
theorem gatherButtonsAndLastDirection : Obligations.GatherButtonsAndLastDirection := by
  unfold Obligations.GatherButtonsAndLastDirection
  intro bits codes
  have hbits (k : Button) (n : Nat) : (k, n) ∈ bits ↔ k.bit = n := mem_map_pair_iff Button.mem_all Button.bit k n
  have hcodes (d : DpadDirection) (c : Nibble) : (d, c) ∈ codes ↔ d.code = c :=
    mem_map_pair_iff DpadDirection.mem_all DpadDirection.code d c
  refine ⟨fun k => ⟨_, (hbits k _).mpr rfl⟩, fun d => ⟨_, (hcodes d _).mpr rfl⟩, fun inputs =>
    ⟨gatherFrom_eq_none_iff, fun mask code h => ⟨fun k n hkn => ?_, code_of_gatherFrom h, ?_⟩⟩⟩
  · obtain rfl := (hbits k n).mp hkn
    simpa using getLsbD_of_gatherFrom h k
  · rintro before d after rfl hlast
    rw [gather, gatherFrom_append] at h
    obtain ⟨p, -, hafter⟩ := Option.bind_eq_some_iff.mp h
    exact (hcodes d code).mpr (code_of_gatherFrom (code := d.code) hafter hlast).symm

/-- Settles O27: the nine bytes are computed. -/
theorem neutralFrame : Obligations.NeutralFrame := by
  unfold Obligations.NeutralFrame
  decide +kernel

end Sys2Proof.Machine
end

section
/-! Lists of commands: how a run takes them one by one, and what every command of a list keeps or answers, the run keeps or answers (30 R73, R87). -/

namespace Sys2Proof.Machine

variable {s t : State} {i : Instr} {cmds : List Instr}

theorem runCommands_cons_iff :
    runCommands (i :: cmds) s = .next t ↔ ∃ u, exec i s = .next u ∧ runCommands cmds u = .next t := by
  obtain ⟨u, hu⟩ := exec_next i s
  simp [runCommands, hu]

theorem runCommands_next (cmds : List Instr) (s : State) : ∃ t, runCommands cmds s = .next t := by
  induction cmds generalizing s with
  | nil => exact ⟨s, rfl⟩
  | cons i rest ih =>
    obtain ⟨u, hu⟩ := exec_next i s
    obtain ⟨t, ht⟩ := ih u
    exact ⟨t, runCommands_cons_iff.mpr ⟨u, hu, ht⟩⟩

theorem runCommands_concat {u : State} (h : runCommands cmds s = .next u) (hi : exec i u = .next t) :
    runCommands (cmds ++ [i]) s = .next t := by
  induction cmds generalizing s with
  | nil =>
    obtain rfl := Host.Outcome.next.inj h
    exact runCommands_cons_iff.mpr ⟨t, hi, rfl⟩
  | cons j rest ih =>
    obtain ⟨v, hj, hrest⟩ := runCommands_cons_iff.mp h
    exact runCommands_cons_iff.mpr ⟨v, hj, ih hrest⟩

theorem runCommands_keeps {α : Type} {part : State → α}
    (hkeep : ∀ i ∈ cmds, ∀ s t, exec i s = .next t → part t = part s) (h : runCommands cmds s = .next t) :
    part t = part s := by
  induction cmds generalizing s with
  | nil =>
    obtain rfl := Host.Outcome.next.inj h
    rfl
  | cons i rest ih =>
    obtain ⟨hi, hrest⟩ := List.forall_mem_cons.mp hkeep
    obtain ⟨u, hu, hrun⟩ := runCommands_cons_iff.mp h
    exact (ih hrest hrun).trans (hi s u hu)

/-- The command's one response is `OK` without data, in every state. -/
def AnswersOk (i : Instr) : Prop :=
  ∀ s t : State, exec i s = .next t → t.responses = s.responses ++ [⟨.ok, 0x0000#16⟩]

theorem runCommands_answersOk (hok : ∀ i ∈ cmds, AnswersOk i) (h : runCommands cmds s = .next t) :
    t.responses = s.responses ++ List.replicate cmds.length ⟨.ok, 0x0000#16⟩ := by
  induction cmds generalizing s with
  | nil =>
    obtain rfl := Host.Outcome.next.inj h
    exact (List.append_nil _).symm
  | cons i rest ih =>
    obtain ⟨hi, hrest⟩ := List.forall_mem_cons.mp hok
    obtain ⟨u, hu, hrun⟩ := runCommands_cons_iff.mp h
    rw [ih hrest hrun, hi s u hu, List.append_assoc]
    rfl

theorem lastOk_of_responses {before : List Response} (h : t.responses = before ++ [⟨.ok, 0x0000#16⟩]) :
    t.lastOk = true := by
  simp [State.lastOk, h]

/-- A host that stops at errors runs commands that all answer `OK` to their end. -/
theorem runScript_commands (stop : Bool) (rest : List HostStep) (hok : ∀ i ∈ cmds, AnswersOk i)
    (h : runCommands cmds s = .next t) : runScript stop (cmds.map .command ++ rest) s = runScript stop rest t := by
  induction cmds generalizing s with
  | nil =>
    obtain rfl := Host.Outcome.next.inj h
    rfl
  | cons i tail ih =>
    obtain ⟨hi, htail⟩ := List.forall_mem_cons.mp hok
    obtain ⟨u, hu, hrun⟩ := runCommands_cons_iff.mp h
    exact (runScript_command stop _ hu (lastOk_of_responses (hi s u hu))).trans (ih htail hrun)

/-- A host that stops at errors issues nothing after one (30 R87). -/
theorem runScript_stops (rest : List HostStep) (h : exec i s = .next t) (hbad : t.lastOk = false) :
    runScript true (.command i :: rest) s = .next t := by
  simp [runScript, h, hbad]

end Sys2Proof.Machine
end

section
/-! One call of the source's encode operation as a run of commands (41 R100 to R102, R108): what the registers and `UNK` hold of the call so far, and that every command adds to it what it supplies. -/

namespace Sys2Proof.Machine

variable {s t : State} {i : Instr} {inputs : List LogicalInput} {v : Analog}

/-- What the block has gathered of a call's inputs: the mask and the code, or nothing when `UNK` says that one was unknown (41 R101). -/
def State.gathered (s : State) : Option (Word × Nibble) := if s.flag .unk then none else some (s.btn, s.dpad)

/-- The values the block holds for the call (41 R100). -/
def State.analog (s : State) : Analog := ⟨s.lx, s.ly, s.rx, s.ry, s.vnd⟩

/-- The block holds the call that supplies these inputs and these values. -/
structure State.Carries (s : State) (inputs : List LogicalInput) (v : Analog) : Prop where
  gathered : s.gathered = gather inputs
  analog : s.analog = v

theorem exec_gathered_of_not_push (hclr : i ≠ .clr) (hpush : ∀ li, i ≠ .push li) (h : exec i s = .next t) :
    t.gathered = s.gathered := by
  obtain ⟨hbtn, hdpad, -⟩ := registersWrittenOnlyByTheirCommands i s t h
  have hunk := flagsChangedOnlyByTheirCommands.2 i s t .unk h
  have hbtn' : t.btn = s.btn := by_contra fun hne => (hbtn hne).elim hclr fun ⟨_, hk⟩ => hpush _ hk
  have hdpad' : t.dpad = s.dpad := by_contra fun hne => (hdpad hne).elim hclr fun ⟨_, hd⟩ => hpush _ hd
  have hunk' : t.flag .unk = s.flag .unk := by_contra fun hne => (hunk hne).elim hclr fun ⟨_, hc⟩ => hpush _ hc
  rw [State.gathered, hbtn', hdpad', hunk', State.gathered]

/-- A `PUSH` gathers its input as the source's encode does (41 R101, R111). -/
theorem exec_push_gathered (li : LogicalInput) (h : exec (.push li) s = .next t) :
    t.gathered = s.gathered.bind fun p => gatherFrom p.1 p.2 [li] := by
  obtain rfl := Host.Outcome.next.inj h
  cases li with
  | button k =>
    change (if s.flag .unk then none else some (s.btn ||| buttonMask k, s.dpad)) = _
    rw [State.gathered]
    split <;> rfl
  | dpad d =>
    change (if s.flag .unk then none else some (s.btn, d.code)) = _
    rw [State.gathered]
    split <;> rfl
  | unknown c => simp [State.gathered, State.applyInput, State.flag_setFlag, gatherFrom]

theorem exec_gathered (hclr : i ≠ .clr) (h : exec i s = .next t) :
    t.gathered = s.gathered.bind fun p => gatherFrom p.1 p.2 (pushedInput i) := by
  by_cases hpush : ∃ li, i = .push li
  case pos =>
    obtain ⟨li, rfl⟩ := hpush
    exact exec_push_gathered li h
  case neg =>
    have hnone : pushedInput i = [] := by
      cases i with
      | push li => exact absurd ⟨li, rfl⟩ hpush
      | _ => rfl
    rw [exec_gathered_of_not_push hclr (not_exists.mp hpush) h, hnone]
    exact (Option.bind_fun_some _).symm

/-- A setter supplies its value, and no other command but `CLR` changes one (41 R108). -/
theorem exec_analog (hclr : i ≠ .clr) (h : exec i s = .next t) : t.analog = s.analog.supply i := by
  cases i with
  | clr => exact absurd rfl hclr
  | setlx | setly | setrx | setry | setvnd =>
    obtain rfl := Host.Outcome.next.inj h
    rfl
  | nop | push | emit | crcinit | crcbyte | dbeg | dbyte | dchk | tclr | tchr | tsend | rd =>
    obtain ⟨-, -, hlx, hly, hrx, hry, hvnd, -⟩ := registersWrittenOnlyByTheirCommands _ s t h
    simp only [ne_eq, reduceCtorEq, exists_false, or_self, imp_false, not_not] at hlx hly hrx hry hvnd
    simp only [State.analog, hlx, hly, hrx, hry, hvnd, Analog.supply]

theorem State.Carries.exec (hs : s.Carries inputs v) (hclr : i ≠ .clr) (h : exec i s = .next t) :
    t.Carries (inputs ++ pushedInput i) (v.supply i) where
  gathered := by rw [exec_gathered hclr h, hs.gathered, gather, ← gatherFrom_append]; rfl
  analog := by rw [exec_analog hclr h, hs.analog]

theorem State.Carries.runCommands {cmds : List Instr} (hs : s.Carries inputs v) (hclr : Instr.clr ∉ cmds)
    (h : runCommands cmds s = .next t) : t.Carries (inputs ++ callInputs cmds) (cmds.foldl Analog.supply v) := by
  induction cmds generalizing s inputs v with
  | nil =>
    obtain rfl := Host.Outcome.next.inj h
    simpa [callInputs] using hs
  | cons i rest ih =>
    obtain ⟨hi, hrest⟩ := List.ne_and_not_mem_of_not_mem_cons hclr
    obtain ⟨u, hu, hrun⟩ := runCommands_cons_iff.mp h
    simpa [callInputs] using ih (hs.exec (Ne.symm hi) hu) hrest hrun

/-- `CLR` starts a call that supplies nothing yet (41 R108, R110). -/
theorem exec_clr_carries (h : exec .clr s = .next t) : t.Carries [] {} := by
  obtain rfl := Host.Outcome.next.inj h
  exact ⟨by simp [State.gathered, State.flag_setFlag]; rfl, rfl⟩

theorem runCommands_clr_carries {cmds : List Instr} (hclr : Instr.clr ∉ cmds)
    (h : runCommands (.clr :: cmds) s = .next t) : t.Carries (callInputs cmds) (callAnalog cmds) := by
  obtain ⟨u, hu, hrun⟩ := runCommands_cons_iff.mp h
  exact (exec_clr_carries hu).runCommands hclr hrun

/-- What an `EMIT` would send is what encode gives for the call the block holds. -/
theorem State.Carries.encodePacket_eq (hs : s.Carries inputs v) :
    encodePacket inputs v = if s.flag .unk then none else some s.packetFields.assemble := by
  obtain ⟨hgathered, rfl⟩ := hs
  rw [encodePacket, ← hgathered, State.gathered]
  split <;> rfl

theorem State.Carries.of_encodePacket_eq_some {f : Frame} (hs : s.Carries inputs v) (hf : encodePacket inputs v = some f) :
    s.flag .unk = false ∧ s.packetFields.assemble = f := by
  rw [hs.encodePacket_eq] at hf
  simpa using hf

theorem State.Carries.of_encodePacket_eq_none (hs : s.Carries inputs v) (hnone : encodePacket inputs v = none) :
    s.flag .unk = true := by
  rw [hs.encodePacket_eq] at hnone
  simpa using hnone

/-- Settles O59: whatever the order, the block holds the call its commands supply, and `EMIT` sends what encode gives for it. -/
theorem encodeCallInAnyOrder : Obligations.EncodeCallInAnyOrder := by
  intro cmds s hclr _
  obtain ⟨u, hu⟩ := runCommands_next (.clr :: cmds) s
  have hcall := runCommands_clr_carries hclr hu
  refine ⟨u, hu, fun f hf => ?_, fun hnone => exec_emit_of_unk (hcall.of_encodePacket_eq_none hnone)⟩
  obtain ⟨hunk, rfl⟩ := hcall.of_encodePacket_eq_some hf
  exact ⟨u.sendPacket, exec_emit_of_not_unk hunk, u.frm_sendPacket, u.tx_sendPacket, u.responses_sendPacket⟩

end Sys2Proof.Machine
end

section
/-! The ENCODE and PRESS pseudo-instructions (30 R87, 41 R107, R108): the run of `encodeSetup`, and what its `EMIT` then sends. -/

namespace Sys2Proof.Machine

variable {s t : State} {i : Instr} {inputs : List LogicalInput} {args : EncodeArgs}

/-! ### The commands of the setup -/

/-- The five setters with one value (41 R113 to R117). -/
def setters (v : Byte) : List Instr := [.setlx v, .setly v, .setrx v, .setry v, .setvnd v]

theorem mem_commands (h : i ∈ args.commands) : ∃ v, i ∈ setters v := by
  simp only [EncodeArgs.commands, List.mem_append, Option.mem_toList, Option.map_eq_some_iff] at h
  obtain (((⟨v, -, rfl⟩ | ⟨v, -, rfl⟩) | ⟨v, -, rfl⟩) | ⟨v, -, rfl⟩) | ⟨v, -, rfl⟩ := h <;> exact ⟨v, by simp [setters]⟩

theorem mem_encodeSetup (h : i ∈ encodeSetup inputs args) :
    i = .clr ∨ (∃ li ∈ inputs, i = .push li) ∨ ∃ v, i ∈ setters v := by
  obtain rfl | h := List.mem_cons.mp h
  · exact .inl rfl
  obtain h | h := List.mem_append.mp h
  · obtain ⟨li, hli, rfl⟩ := List.mem_map.mp h
    exact .inr (.inl ⟨li, hli, rfl⟩)
  · exact .inr (.inr (mem_commands h))

theorem clr_not_mem_encodeSetup_tail : Instr.clr ∉ inputs.map Instr.push ++ args.commands := by
  intro h
  obtain h | h := List.mem_append.mp h
  · simp at h
  · obtain ⟨v, hv⟩ := mem_commands h
    simp [setters] at hv

theorem callInputs_encodeSetup_tail : callInputs (inputs.map Instr.push ++ args.commands) = inputs := by
  have hpush : callInputs (inputs.map Instr.push) = inputs := by simp [callInputs, List.flatMap_map, pushedInput]
  have hset : callInputs args.commands = [] := List.flatMap_eq_nil_iff.mpr fun i hi => by
    obtain ⟨v, hv⟩ := mem_commands hi
    fin_cases hv <;> rfl
  rw [callInputs, List.flatMap_append]
  exact (congrArg₂ (· ++ ·) hpush hset).trans (List.append_nil _)

theorem callAnalog_encodeSetup_tail : callAnalog (inputs.map Instr.push ++ args.commands) = args.analog := by
  have hpush : (inputs.map Instr.push).foldl Analog.supply {} = {} := by
    rw [List.foldl_map]
    exact List.foldl_fixed' (fun _ => rfl) inputs
  have hlx (o : Option Byte) (v : Analog) :
      (o.map .setlx).toList.foldl Analog.supply v = { v with lx := o.getD v.lx } := by cases o <;> rfl
  have hly (o : Option Byte) (v : Analog) :
      (o.map .setly).toList.foldl Analog.supply v = { v with ly := o.getD v.ly } := by cases o <;> rfl
  have hrx (o : Option Byte) (v : Analog) :
      (o.map .setrx).toList.foldl Analog.supply v = { v with rx := o.getD v.rx } := by cases o <;> rfl
  have hry (o : Option Byte) (v : Analog) :
      (o.map .setry).toList.foldl Analog.supply v = { v with ry := o.getD v.ry } := by cases o <;> rfl
  have hvnd (o : Option Byte) (v : Analog) :
      (o.map .setvnd).toList.foldl Analog.supply v = { v with vendor := o.getD v.vendor } := by cases o <;> rfl
  simp only [callAnalog, EncodeArgs.commands, List.foldl_append, hpush, hlx, hly, hrx, hry, hvnd]
  rfl

theorem clr_answersOk : AnswersOk .clr := by
  intro s t h
  obtain rfl := Host.Outcome.next.inj h
  rfl

/-- With its inputs known, every command of the setup answers `OK` (41 R110, R111, R113 to R117). -/
theorem answersOk_of_mem_encodeSetup (hknown : ∀ c, LogicalInput.unknown c ∉ inputs) :
    ∀ i ∈ encodeSetup inputs args, AnswersOk i := by
  intro i hi s t h
  obtain rfl | ⟨li, hli, rfl⟩ | ⟨v, hv⟩ := mem_encodeSetup hi
  · exact clr_answersOk s t h
  · obtain rfl := Host.Outcome.next.inj h
    cases li with
    | button k | dpad d => rfl
    | unknown c => exact absurd hli (hknown c)
  · fin_cases hv <;> obtain rfl := Host.Outcome.next.inj h <;> rfl

/-- What only an `EMIT` of the encode side's commands writes: the channel, `FRM`, `FLEN` and `CRC`. -/
def State.sentSide (s : State) : List ChannelEvent × Frame × Nibble × Byte := (s.channel, s.frm, s.flen, s.crc)

theorem sentSide_of_mem_encodeSetup :
    ∀ i ∈ encodeSetup inputs args, ∀ s t, exec i s = .next t → t.sentSide = s.sentSide := by
  intro i hi s t h
  obtain rfl | ⟨li, -, rfl⟩ | ⟨v, hv⟩ := mem_encodeSetup hi
  · obtain rfl := Host.Outcome.next.inj h
    rfl
  · obtain rfl := Host.Outcome.next.inj h
    cases li <;> rfl
  · fin_cases hv <;> obtain rfl := Host.Outcome.next.inj h <;> rfl

/-! ### The call -/

theorem runCommands_encodeSetup (inputs : List LogicalInput) (args : EncodeArgs) (s : State) :
    ∃ u, runCommands (encodeSetup inputs args) s = .next u ∧ u.Carries inputs args.analog ∧ u.sentSide = s.sentSide := by
  obtain ⟨u, hu⟩ := runCommands_next (encodeSetup inputs args) s
  have hcall := runCommands_clr_carries clr_not_mem_encodeSetup_tail hu
  rw [callInputs_encodeSetup_tail, callAnalog_encodeSetup_tail] at hcall
  exact ⟨u, hu, hcall, runCommands_keeps sentSide_of_mem_encodeSetup hu⟩

theorem known_of_encodePacket_eq_some {v : Analog} {f : Frame} (hf : encodePacket inputs v = some f) (c : Byte) :
    LogicalInput.unknown c ∉ inputs := by
  intro hc
  have hnone : gather inputs = none := gatherFrom_eq_none_iff.mpr ⟨c, hc⟩
  simp [encodePacket, hnone] at hf

theorem unknown_of_encodePacket_eq_none {v : Analog} (hnone : encodePacket inputs v = none) :
    ∃ c, LogicalInput.unknown c ∈ inputs :=
  gatherFrom_eq_none_iff.mp (Option.map_eq_none_iff.mp hnone)

/-- A call whose inputs are known runs through its setup and sends encode's frame, every command answering `OK`. -/
theorem encodeCall_sends {f : Frame} (hf : encodePacket inputs args.analog = some f) (s : State) :
    ∃ u, runCommands (encodeSetup inputs args) s = .next u ∧ exec .emit u = .next u.sendPacket ∧
      u.sendPacket.tx = s.tx ++ [f.bytes] ∧ u.sendPacket.frm = f := by
  obtain ⟨u, hu, hcall, hsent⟩ := runCommands_encodeSetup inputs args s
  obtain ⟨hunk, rfl⟩ := hcall.of_encodePacket_eq_some hf
  have hchannel : u.channel = s.channel := congrArg Prod.fst hsent
  have htx : u.tx = s.tx := congrArg framesOf hchannel
  exact ⟨u, hu, exec_emit_of_not_unk hunk, htx ▸ u.tx_sendPacket, u.frm_sendPacket⟩

/-- Settles O29: the setup leaves the block holding the call, so `EMIT` sends what encode gives. -/
theorem encodeCallRefinesEncode : Obligations.EncodeCallRefinesEncode := by
  intro inputs args s f hf
  obtain ⟨u, hu, hemit, htx, hfrm⟩ := encodeCall_sends hf s
  have hresp := runCommands_answersOk (answersOk_of_mem_encodeSetup (known_of_encodePacket_eq_some hf)) hu
  refine ⟨u.sendPacket, runCommands_concat hu hemit, htx, hfrm, ?_⟩
  rw [u.responses_sendPacket, hresp, List.append_assoc, List.length_append, List.replicate_add]
  rfl

/-- Settles O30: the unknown input leaves `UNK` set, so `EMIT` is refused. -/
theorem unknownInputSendsNothing : Obligations.UnknownInputSendsNothing := by
  intro inputs args s hnone
  obtain ⟨u, hu, hcall, hsent⟩ := runCommands_encodeSetup inputs args s
  have hunk := hcall.of_encodePacket_eq_none hnone
  simp only [State.sentSide, Prod.mk.injEq] at hsent
  obtain ⟨hchannel, hfrm, hflen, hcrc⟩ := hsent
  exact ⟨u.respond .unknownInput, runCommands_concat hu (exec_emit_of_unk hunk), hchannel, hfrm, hflen, hcrc, hunk,
    List.getLast?_concat⟩

/-! ### PRESS -/

/-- A host that stops at errors goes through a call whose inputs are known, and encode's frame has gone out. -/
theorem runScript_encodeCall {f : Frame} (hf : encodePacket inputs args.analog = some f) (stop : Bool)
    (rest : List HostStep) (s : State) :
    ∃ t, runScript stop ((encodeSetup inputs args ++ [Instr.emit]).map .command ++ rest) s = runScript stop rest t ∧
      t.tx = s.tx ++ [f.bytes] := by
  obtain ⟨u, hu, hemit, htx, -⟩ := encodeCall_sends hf s
  have hsetup := runScript_commands stop (.command .emit :: rest)
    (answersOk_of_mem_encodeSetup (known_of_encodePacket_eq_some hf)) hu
  refine ⟨u.sendPacket, ?_, htx⟩
  rw [List.map_append, List.append_assoc]
  exact hsetup.trans (runScript_command stop rest hemit (lastOk_of_responses u.responses_sendPacket))

theorem runScript_push_unknown {c : Byte} (hc : LogicalInput.unknown c ∈ inputs) (rest : List HostStep) (s : State) :
    ∃ t, runScript true ((inputs.map Instr.push).map .command ++ rest) s = .next t ∧ t.channel = s.channel := by
  induction inputs generalizing s with
  | nil => cases hc
  | cons li tail ih =>
    cases hli : li with
    | unknown x => exact ⟨_, runScript_stops _ rfl (State.lastOk_respond _ _), rfl⟩
    | button k | dpad d =>
      have htail : LogicalInput.unknown c ∈ tail := by simpa [hli] using hc
      obtain ⟨t, hrun, hchannel⟩ := ih htail ((s.applyInput li).respond .ok)
      subst hli
      exact ⟨t, (runScript_command true _ rfl (State.lastOk_respond _ _)).trans hrun, hchannel⟩

/-- The host stops at the first unknown input of a call, before anything is sent. -/
theorem runScript_encodeSetup_unknown {c : Byte} (hc : LogicalInput.unknown c ∈ inputs) (args : EncodeArgs)
    (rest : List HostStep) (s : State) :
    ∃ t, runScript true ((encodeSetup inputs args).map .command ++ rest) s = .next t ∧ t.channel = s.channel := by
  obtain ⟨u, hclr⟩ := exec_next .clr s
  have hok := lastOk_of_responses (clr_answersOk s u hclr)
  have hsame : u.channel = s.channel := by
    obtain rfl := Host.Outcome.next.inj hclr
    rfl
  obtain ⟨t, hrun, hchannel⟩ := runScript_push_unknown hc (args.commands.map .command ++ rest) u
  have hexpand : (encodeSetup inputs args).map HostStep.command ++ rest =
      .command .clr :: ((inputs.map Instr.push).map .command ++ (args.commands.map .command ++ rest)) := by
    simp [encodeSetup]
  exact ⟨t, hexpand ▸ (runScript_command true _ hclr hok).trans hrun, hchannel.trans hsame⟩

/-- The neutral frame is that of a call without inputs (41 R103). -/
theorem encodePacket_neutral : ∃ neutral, encodePacket [] {} = some neutral := ⟨_, rfl⟩

/-- Settles O31: a press is two calls in a row, the second without inputs; an unknown input stops the host inside the first one's setup. -/
theorem pressIsAPair : Obligations.PressIsAPair := by
  intro inputs hold s
  cases hf : encodePacket inputs {} with
  | some f =>
    obtain ⟨neutral, hneutral⟩ := encodePacket_neutral
    obtain ⟨t, hpress, htx⟩ := runScript_encodeCall (args := {}) hf true
      [.wait hold, .command .clr, .command .emit] s
    obtain ⟨u, hrelease, hux⟩ := runScript_encodeCall (args := {}) hneutral true [] t
    refine ⟨u, hpress.trans hrelease, fun g hg => ⟨neutral, hneutral, ?_⟩, nofun⟩
    obtain rfl := Option.some.inj hg
    rw [hux, htx, List.append_assoc]
    rfl
  | none =>
    obtain ⟨c, hc⟩ := unknown_of_encodePacket_eq_none hf
    obtain ⟨t, hrun, hchannel⟩ := runScript_encodeSetup_unknown hc {}
      [.command .emit, .wait hold, .command .clr, .command .emit] s
    have hexpand : (Pseudo.press inputs hold).expand =
        (encodeSetup inputs {}).map .command ++ [.command .emit, .wait hold, .command .clr, .command .emit] := by
      simp [Pseudo.expand]
    exact ⟨t, (congrArg (runScript true · s) hexpand).trans hrun, nofun, fun _ => hchannel⟩

end Sys2Proof.Machine
end

section
/-! Decode and encode as inverse functions (42 R120, R121): a frame's fields assemble to the frame exactly when decode accepts it. -/

namespace Sys2Proof.Machine

variable {f : Frame} {p : PacketFields}

/-! ### The fields of a frame and the frame of fields -/

theorem PacketFields.fields_assemble (p : PacketFields) : p.assemble.fields = p := by
  ext1
  case mask => exact BitVec.extractLsb'_append_extractLsb' (w := 8) (len := 8)
  case code => exact (BitVec.setWidth_setWidth_of_le p.code (show 4 ≤ 8 by decide)).trans (BitVec.setWidth_eq _)
  all_goals rfl

/-- Byte 0 and byte 1 are the mask's halves, byte 2 loses nothing in its four low bits, and byte 8 is the checksum (42 R121). -/
theorem Frame.assemble_fields (hcheck : f.check = crc8 f.payload) (hcode : ¬0x08 < f.dpadCode.toNat) :
    f.fields.assemble = f := by
  have hlsb : (f.buttonsMsb ++ f.buttonsLsb).extractLsb' 0 8 = f.buttonsLsb := BitVec.extractLsb'_append_eq_right
  have hmsb : (f.buttonsMsb ++ f.buttonsLsb).extractLsb' 8 8 = f.buttonsMsb := BitVec.extractLsb'_append_eq_left
  have hdpad : (f.dpadCode.setWidth 4).setWidth 8 = f.dpadCode := by bv_omega
  have hpayload : f.fields.payload = f.payload := by
    simp only [PacketFields.payload, Frame.fields, hlsb, hmsb, hdpad, Frame.payload_eq]
  simp only [PacketFields.assemble, hpayload, ← hcheck]
  simp only [Frame.fields, hlsb, hmsb, hdpad]

/-! ### The three answers of decode (42 R120) -/

theorem decodePacket_of_check_ne (hcheck : f.check ≠ crc8 f.payload) : decodePacket f = .corrupt := by
  rw [decodePacket_eq, if_pos hcheck]

theorem decodePacket_of_code_gt (hcheck : f.check = crc8 f.payload) (hcode : 0x08 < f.dpadCode.toNat) :
    decodePacket f = .badDpadCode := by
  rw [decodePacket_eq, if_neg (not_not.mpr hcheck), if_pos hcode]

theorem decodePacket_of_legal (hcheck : f.check = crc8 f.payload) (hcode : ¬0x08 < f.dpadCode.toNat) :
    decodePacket f = .fields f.fields := by
  rw [decodePacket_eq, if_neg (not_not.mpr hcheck), if_neg hcode]

theorem legal_of_decodePacket_eq_fields (h : decodePacket f = .fields p) :
    f.check = crc8 f.payload ∧ ¬0x08 < f.dpadCode.toNat ∧ f.fields = p := by
  by_cases hcheck : f.check = crc8 f.payload
  case neg => cases (decodePacket_of_check_ne hcheck).symm.trans h
  by_cases hcode : 0x08 < f.dpadCode.toNat
  case pos => cases (decodePacket_of_code_gt hcheck hcode).symm.trans h
  case neg => exact ⟨hcheck, hcode, DecodeResult.fields.inj ((decodePacket_of_legal hcheck hcode).symm.trans h)⟩

/-! ### Encode and decode -/

theorem decodePacket_assemble (hcode : p.code.toNat ≤ 8) : decodePacket p.assemble = .fields p := by
  have hlegal : ¬0x08 < p.assemble.dpadCode.toNat := by
    rwa [PacketFields.assemble, BitVec.toNat_setWidth_of_le (by decide), not_lt]
  rw [decodePacket_of_legal rfl hlegal, p.fields_assemble]

/-- What the inputs gather is a direction's code whenever the code they start from is one (30 R77, 41 R101). -/
theorem code_le_of_gatherFrom {mask mask' : Word} {code code' : Nibble} {inputs : List LogicalInput}
    (hcode : code.toNat ≤ 8) (h : gatherFrom mask code inputs = some (mask', code')) : code'.toNat ≤ 8 := by
  induction inputs generalizing mask code with
  | nil =>
    obtain ⟨-, rfl⟩ := Prod.mk.inj (Option.some.inj h)
    exact hcode
  | cons x xs ih =>
    cases x with
    | button k => exact ih hcode h
    | dpad d => exact ih (Nat.lt_succ_iff.mp (dpadCode_lt d)) h
    | unknown c => cases h

/-- Settles O35: assembling and reading the fields undo each other, and encode gathers only directions' codes. -/
theorem decodeRecoversEncode : Obligations.DecodeRecoversEncode := by
  refine ⟨fun p => decodePacket_assemble, fun f p h => ?_, fun inputs v f hf => ?_⟩
  · obtain ⟨hcheck, hcode, rfl⟩ := legal_of_decodePacket_eq_fields h
    exact Frame.assemble_fields hcheck hcode
  · obtain ⟨⟨mask, code⟩, hgather, rfl⟩ := Option.map_eq_some_iff.mp hf
    exact ⟨mask, code, hgather, decodePacket_assemble (code_le_of_gatherFrom (by decide) hgather)⟩

end Sys2Proof.Machine
end

section
/-! The decode side's commands (42 R122 to R124): each ends by writing the three decode flags, and `DCHK` writes what decode's verdict names. -/

namespace Sys2Proof.Machine

variable {s : State} {b : Byte} {r : DecodeResult}

/-- A command that ends by writing the decode flags leaves them as written and the five others as they were, and beside them only responds (10 R33). -/
theorem State.respond_setDecodeFlags_spec (s : State) (dv ce dp : Bool) (c : RespCode) :
    let t := (s.setDecodeFlags dv ce dp).respond c
    t = { s with status := t.status, responses := s.responses ++ [⟨c, 0x0000#16⟩] } ∧
      t.flag .dvalid = dv ∧ t.flag .crcerr = ce ∧ t.flag .dperr = dp ∧
      ∀ f : Flag, f ≠ .dvalid → f ≠ .crcerr → f ≠ .dperr → t.flag f = s.flag f := by
  refine ⟨by simp [State.ext_iff], s.flag_setDecodeFlags dv ce dp .dvalid, s.flag_setDecodeFlags dv ce dp .crcerr,
    s.flag_setDecodeFlags dv ce dp .dperr, fun f hdv hce hdp => ?_⟩
  by_contra hne
  obtain h | h | h := decodeFlag_of_flag_setDecodeFlags_ne rfl hne
  · exact hdv h
  · exact hce h
  · exact hdp h

/-! ### `DBEG` and `DBYTE` -/

/-- Settles O32: the arm empties the count and writes three zeros to the decode flags. -/
theorem dbegEmptiesFrame : Obligations.DbegEmptiesFrame :=
  ⟨⟨rfl, rfl⟩, operandRefused_of_decodeFields fun _ => rfl, fun s =>
    ⟨_, rfl, State.respond_setDecodeFlags_spec { s with flen := 0#4 } false false false .ok⟩⟩

theorem exec_dbyte_of_full (hfull : s.flen = fullCount) : exec (.dbyte b) s = .next (s.respond .frameLength) := by
  simp only [exec, execDbyte, hfull, if_true]

theorem exec_dbyte_of_room (hroom : s.flen.toNat < 9) :
    exec (.dbyte b) s = .next (((s.putFrameByte b).setDecodeFlags false false false).respond .ok) := by
  have hne : s.flen ≠ fullCount := fun hfull => absurd (hfull ▸ hroom) (by decide)
  simp only [exec, execDbyte, hne, if_false]

/-- The count does not wrap while there is room. -/
theorem flen_putFrameByte (hroom : s.flen.toNat < 9) : (s.putFrameByte b).flen.toNat = s.flen.toNat + 1 := by
  rw [State.putFrameByte_flen]
  bv_omega

/-- Settles O33: a byte is put where the count points, and read back by `Frame.get_put`. -/
theorem dbyteStoresOrRefuses : Obligations.DbyteStoresOrRefuses := by
  refine fun b => ⟨⟨decode_encode (i := .dbyte b) rfl, rfl⟩, fun s => ⟨fun hfull => ?_, fun hroom => ?_⟩⟩
  · exact exec_dbyte_of_full (BitVec.eq_of_toNat_eq hfull)
  · obtain ⟨heq, hflags⟩ := (s.putFrameByte b).respond_setDecodeFlags_spec false false false .ok
    exact ⟨_, exec_dbyte_of_room hroom, heq, flen_putFrameByte (b := b) hroom, s.frm.get_put _ b, hflags⟩

/-! ### `DCHK` -/

/-- What a `DCHK` of a full buffer leaves when the source's decode operation answers this (42 R120, R124). -/
def State.judgedAs (s : State) : DecodeResult → State
  | .corrupt => (State.setDecodeFlags { s with crc := crc8 s.frm.payload } false true false).respond .checksumError
  | .badDpadCode => (State.setDecodeFlags { s with crc := crc8 s.frm.payload } false false true).respond .badDpadCode
  | .fields p =>
    ((State.unpack { s with crc := crc8 s.frm.payload } p).setDecodeFlags true false false).respond .ok

theorem exec_dchk_of_short (hshort : s.flen ≠ fullCount) :
    exec .dchk s = .next ((s.setDecodeFlags false false false).respond .frameLength) := by
  simp only [exec, execDchk, ne_eq, hshort, not_false_eq_true, if_true]

theorem exec_dchk_of_full (hfull : s.flen = fullCount) (hverdict : decodePacket s.frm = r) :
    exec .dchk s = .next (s.judgedAs r) := by
  obtain ⟨t, h⟩ := exec_next .dchk s
  obtain ⟨hshort, -⟩ | ⟨-, hr, rfl⟩ | ⟨-, hr, rfl⟩ | ⟨-, hr, rfl⟩ := exec_dchk_cases h
  case inl => exact absurd hfull hshort
  all_goals
    obtain rfl := hr.symm.trans hverdict
    exact h

/-- Settles O34: the statement's tests are decode's, so each outcome is `State.judgedAs` of decode's answer. -/
theorem dchkJudgesFrame : Obligations.DchkJudgesFrame := by
  refine ⟨⟨rfl, rfl⟩, operandRefused_of_decodeFields fun _ => rfl, fun s => ?_⟩
  intro c
  by_cases hfull : s.flen = 9#4
  case neg =>
    obtain ⟨heq, hdv, hce, hdp, hother⟩ := s.respond_setDecodeFlags_spec false false false .frameLength
    refine ⟨_, exec_dchk_of_short hfull, hother, ?_⟩
    rw [if_pos hfull]
    exact ⟨heq, hdv, hce, hdp⟩
  by_cases hcrc : c = s.frm.check
  case neg =>
    obtain ⟨heq, hdv, hce, hdp, hother⟩ :=
      State.respond_setDecodeFlags_spec { s with crc := c } false true false .checksumError
    refine ⟨_, exec_dchk_of_full hfull (decodePacket_of_check_ne (Ne.symm hcrc)), hother, ?_⟩
    rw [if_neg (not_not.mpr hfull), if_pos hcrc]
    exact ⟨heq, hdv, hce, hdp⟩
  by_cases hcode : 0x08 < s.frm.dpadCode.toNat
  case pos =>
    obtain ⟨heq, hdv, hce, hdp, hother⟩ :=
      State.respond_setDecodeFlags_spec { s with crc := c } false false true .badDpadCode
    refine ⟨_, exec_dchk_of_full hfull (decodePacket_of_code_gt hcrc.symm hcode), hother, ?_⟩
    rw [if_neg (not_not.mpr hfull), if_neg (not_not.mpr hcrc), if_pos hcode]
    exact ⟨heq, hdv, hce, hdp⟩
  case neg =>
    obtain ⟨heq, hdv, hce, hdp, hother⟩ :=
      State.respond_setDecodeFlags_spec (State.unpack { s with crc := c } s.frm.fields) true false false .ok
    refine ⟨_, exec_dchk_of_full hfull (decodePacket_of_legal hcrc.symm hcode), hother, ?_⟩
    rw [if_neg (not_not.mpr hfull), if_neg (not_not.mpr hcrc), if_neg hcode]
    exact ⟨heq, hdv, hce, hdp⟩

end Sys2Proof.Machine
end

section
/-! Frames judged by runs of commands: the DECODE pseudo-instruction (30 R87, 42 R120), and `DCHK` straight after `EMIT` (10 R28, 42 R121). -/

namespace Sys2Proof.Machine

variable {s t : State}

/-! ### Nine bytes given to the block -/

/-- The frame after these bytes are put one after another from this index on. -/
def Frame.putFrom (f : Frame) : Nat → List Byte → Frame
  | _, [] => f
  | i, b :: bytes => (f.put i b).putFrom (i + 1) bytes

/-- The nine bytes of a frame put from the start replace everything that was there. -/
theorem Frame.putFrom_zero_bytes (f g : Frame) : f.putFrom 0 g.bytes = g := by
  simp only [Frame.bytes, Frame.putFrom, Frame.put]

/-- What filling `FRM` leaves alone: the encode registers, the channel and the decode registers. -/
def State.besideFrame (s : State) : PacketFields × List ChannelEvent × PacketFields :=
  (s.packetFields, s.channel, s.decodedFields)

/-- The `DBYTE`s of bytes that fit fill `FRM` from `FLEN` on, and the host goes on after them (42 R123). -/
theorem runScript_dbytes (stop : Bool) (bytes : List Byte) (rest : List HostStep)
    (hfit : s.flen.toNat + bytes.length ≤ 9) :
    ∃ t, runScript stop ((bytes.map Instr.dbyte).map .command ++ rest) s = runScript stop rest t ∧
      t.frm = s.frm.putFrom s.flen.toNat bytes ∧ t.flen.toNat = s.flen.toNat + bytes.length ∧
      t.besideFrame = s.besideFrame := by
  induction bytes generalizing s with
  | nil => exact ⟨s, rfl, rfl, rfl, rfl⟩
  | cons b bytes ih =>
    rw [List.length_cons] at hfit ⊢
    have hroom : s.flen.toNat < 9 := by omega
    let u := ((s.putFrameByte b).setDecodeFlags false false false).respond .ok
    have hflen : u.flen.toNat = s.flen.toNat + 1 := flen_putFrameByte (b := b) hroom
    have hput : u.frm = s.frm.put s.flen.toNat b := by simp [u]
    obtain ⟨t, hrun, hfrm, hcount, hbeside⟩ := ih (s := u) (by omega)
    refine ⟨t, (runScript_command stop _ (exec_dbyte_of_room hroom) (State.lastOk_respond _ _)).trans hrun, ?_, by omega,
      hbeside.trans ?_⟩
    · rw [hfrm, hflen, hput, Frame.putFrom]
    · simp [State.besideFrame, State.packetFields, State.decodedFields, u]

/-- A last command ends the script whatever it answers. -/
theorem runScript_last {i : Instr} (stop : Bool) (h : exec i s = .next t) :
    runScript stop [.command i] s = .next t := by
  simp [runScript, h]

/-- `DBEG` and the nine `DBYTE`s of a frame leave it in `FRM`, ready for the `DCHK` that ends the script. -/
theorem Pseudo.run_decode (f : Frame) (s : State) :
    ∃ t : State, Pseudo.run (.decode f) s = .next (t.judgedAs (decodePacket f)) ∧ t.frm = f ∧
      t.besideFrame = s.besideFrame := by
  let u := (State.setDecodeFlags { s with flen := 0#4 } false false false).respond .ok
  obtain ⟨t, hbytes, hfrm, hcount, hbeside⟩ := runScript_dbytes (s := u) true f.bytes [.command .dchk] (le_refl 9)
  have hfull : t.flen = fullCount := BitVec.eq_of_toNat_eq hcount
  have hframe : t.frm = f := hfrm.trans (Frame.putFrom_zero_bytes _ f)
  have hcheck := runScript_last true (exec_dchk_of_full hfull (congrArg decodePacket hframe))
  exact ⟨t, (runScript_command true _ rfl (State.lastOk_respond _ _)).trans (hbytes.trans hcheck), hframe, hbeside⟩

/-- Whatever the verdict, the checksum is in `CRC`, and `FRM`, the encode registers and the channel stay (42 R124). -/
theorem State.judgedAs_keeps (s : State) (r : DecodeResult) :
    (s.judgedAs r).frm = s.frm ∧ (s.judgedAs r).crc = crc8 s.frm.payload ∧
      (s.judgedAs r).packetFields = s.packetFields ∧ (s.judgedAs r).channel = s.channel := by
  cases r <;> simp [State.judgedAs, State.packetFields]

/-- An accepted frame's fields are in the decode registers; a rejected one leaves them (42 R124). -/
theorem State.decodedFields_judgedAs (s : State) (r : DecodeResult) :
    (s.judgedAs r).decodedFields = match r with
      | .fields p => p
      | .corrupt | .badDpadCode => s.decodedFields := by
  cases r <;> simp [State.judgedAs, State.decodedFields]

theorem State.flag_dvalid_judgedAs (s : State) (r : DecodeResult) :
    (s.judgedAs r).flag .dvalid = match r with
      | .fields _ => true
      | .corrupt | .badDpadCode => false := by
  cases r <;> simp [State.judgedAs, State.flag_setDecodeFlags]

/-- The response names the verdict. -/
theorem State.responses_judgedAs (s : State) (r : DecodeResult) :
    (s.judgedAs r).responses = s.responses ++ [⟨match r with
      | .fields _ => .ok
      | .corrupt => .checksumError
      | .badDpadCode => .badDpadCode, 0x0000#16⟩] := by
  cases r <;> simp [State.judgedAs]

/-- Settles O36: the commands before `DCHK` put the frame in `FRM`, and `DCHK` writes what decode answers. -/
theorem decodeCallRefinesDecode : Obligations.DecodeCallRefinesDecode := by
  intro f s
  obtain ⟨t, hrun, hfrm, hbeside⟩ := Pseudo.run_decode f s
  simp only [State.besideFrame, Prod.mk.injEq] at hbeside
  obtain ⟨hpacket, hchannel, hdecoded⟩ := hbeside
  obtain ⟨hkfrm, hkcrc, hkpacket, hkchannel⟩ := t.judgedAs_keeps (decodePacket f)
  refine ⟨_, hrun, hkfrm.trans hfrm, hfrm ▸ hkcrc, hkpacket.trans hpacket, hkchannel.trans hchannel, ?_⟩
  rw [State.decodedFields_judgedAs, State.flag_dvalid_judgedAs, State.responses_judgedAs, List.getLast?_concat]
  cases decodePacket f with
  | fields p => exact ⟨rfl, rfl, rfl⟩
  | corrupt | badDpadCode => exact ⟨hdecoded, rfl, rfl⟩

/-! ### The packet just sent -/

theorem State.flen_sendPacket (s : State) : s.sendPacket.flen = fullCount := by
  simp [State.sendPacket]

theorem State.packetFields_sendPacket (s : State) : s.sendPacket.packetFields = s.packetFields := by
  simp [State.sendPacket, State.packetFields]

/-- Settles O37: `EMIT` leaves the assembled frame in a full `FRM`, and decode of it gives the fields back. -/
theorem dchkAfterEmitRecovers : Obligations.DchkAfterEmitRecovers := by
  intro s hunk hdpad
  have hverdict : decodePacket s.sendPacket.frm = .fields s.packetFields := by
    rw [State.frm_sendPacket]
    exact decodePacket_assemble hdpad
  have hcheck := exec_dchk_of_full s.flen_sendPacket hverdict
  have hrun : runCommands [.emit, .dchk] s = .next _ :=
    runCommands_cons_iff.mpr ⟨_, exec_emit_of_not_unk hunk, runCommands_cons_iff.mpr ⟨_, hcheck, rfl⟩⟩
  obtain ⟨-, -, hpacket, -⟩ := s.sendPacket.judgedAs_keeps (.fields s.packetFields)
  refine ⟨_, hrun, State.flag_dvalid_judgedAs _ _, State.decodedFields_judgedAs _ _,
    hpacket.trans s.packetFields_sendPacket, ?_⟩
  rw [State.responses_judgedAs, State.responses_sendPacket, List.append_assoc]
  rfl

end Sys2Proof.Machine
end

section
/-! The display side's commands (43 R139 to R141): what a refused command writes, what a stored character does to the text, and the frame a `TSEND` sends. -/

namespace Sys2Proof.Machine

variable {s : State}

/-! ### `TCLR` -/

/-- Settles O38: the arm empties the count and writes two zeros to the flags, one after the other. -/
theorem tclrEmptiesText : Obligations.TclrEmptiesText := by
  refine ⟨⟨rfl, rfl⟩, operandRefused_of_decodeFields fun _ => rfl, fun s =>
    ⟨_, rfl, rfl, ?_, ?_, fun f hnasc htovf => ?_⟩⟩
  · exact (State.flag_setFlag _ .tovf .nasc false).trans (State.flag_setFlag _ .nasc .nasc false)
  · exact State.flag_setFlag _ .tovf .tovf false
  · calc
      _ = State.flag (State.setFlag { s with tlen := 0#16 } .nasc false) f :=
        (State.flag_setFlag _ .tovf f false).trans (if_neg htovf)
      _ = s.flag f := (State.flag_setFlag _ .nasc f false).trans (if_neg hnasc)

/-! ### `TCHR` -/

/-- A command that ends by setting one flag leaves the seven others as they were, and beside STATUS only responds (10 R33). -/
theorem State.respond_setFlag_spec (s : State) (f : Flag) (v : Bool) (c : RespCode) :
    let t := (s.setFlag f v).respond c
    t = { s with status := t.status, responses := s.responses ++ [⟨c, 0x0000#16⟩] } ∧
      t.flag f = v ∧ ∀ g : Flag, g ≠ f → t.flag g = s.flag g :=
  ⟨rfl, (s.flag_setFlag f f v).trans (if_pos rfl), fun g hg => (s.flag_setFlag f g v).trans (if_neg hg)⟩

/-- The count does not wrap while there is room: TEXT_MAX is at most 65535 (00 R8). -/
theorem tlen_putChar {c : Byte} (hmax : s.textMax ≤ 65535) (hroom : s.tlen.toNat < s.textMax) :
    (s.putChar c).tlen.toNat = s.tlen.toNat + 1 := by
  rw [State.putChar_tlen]
  bv_omega

/-- Settles O39: each test of the statement picks one outcome of `exec_tchr_cases` and rules the others out. -/
theorem tchrGathersText : Obligations.TchrGathersText := by
  refine fun c => ⟨⟨decode_encode (i := .tchr c) rfl, rfl⟩, fun s hmax hlen => ?_⟩
  obtain ⟨t, h⟩ := exec_next (.tchr c) s
  obtain ⟨hc, rfl⟩ | ⟨hc, hfull, rfl⟩ | ⟨hc, hroom, rfl⟩ := exec_tchr_cases h
  · rw [if_pos hc]
    exact ⟨_, h, s.respond_setFlag_spec .nasc true .nonAscii⟩
  · rw [if_neg (not_le.mpr hc), if_pos hfull]
    exact ⟨_, h, s.respond_setFlag_spec .tovf true .textOverflow⟩
  · rw [if_neg (not_le.mpr hc), if_neg hroom]
    have hlt : s.tlen.toNat < s.textMax := lt_of_le_of_ne hlen hroom
    refine ⟨_, h, rfl, tlen_putChar (c := c) hmax hlt, s.textMax_putChar c, fun i hi => ?_⟩
    rw [State.respond_tbuf, State.putChar_tbuf, List.getElem?_set, if_pos (show s.tlen.toNat < s.tbuf.length from hlt)]
    simp only [eq_comm]

/-! ### `TSEND` -/

/-- The text a `TSEND` sends, with its count as a number. -/
theorem State.displayText_eq (s : State) :
    s.displayText = if s.tlen.toNat = 0 then [Config.TEXT_FILL] else s.text := by
  have hzero : s.tlen = 0#16 ↔ s.tlen.toNat = 0 := BitVec.toNat_inj.symm
  simp only [State.displayText, hzero]

/-- Settles O40: the statement's chain of tests is that of `exec_tsend_cases`. -/
theorem tsendSendsDisplayFrame : Obligations.TsendSendsDisplayFrame := by
  refine ⟨⟨rfl, rfl⟩, operandRefused_of_decodeFields fun _ => rfl, fun s => ?_⟩
  obtain ⟨t, h⟩ := exec_next .tsend s
  rw [h]
  obtain ⟨hnasc, rfl⟩ | ⟨hnasc, htovf, rfl⟩ | ⟨hnasc, htovf, rfl⟩ := exec_tsend_cases h
  · rw [if_pos hnasc]
    rfl
  · rw [if_neg (Bool.eq_false_iff.mp hnasc), if_pos htovf]
    rfl
  · rw [if_neg (Bool.eq_false_iff.mp hnasc), if_neg (Bool.eq_false_iff.mp htovf), State.displayText_eq]
    rfl

end Sys2Proof.Machine
end

section
/-! The DISPLAY pseudo-instruction (30 R87, 43 R135): what the block holds of a text after its `TCHR`s, whatever the host gave. -/

namespace Sys2Proof.Machine

variable {s t : State} {given text : List Byte}

/-- A host that does not stop at errors runs its commands to the end (30 R87). -/
theorem runScript_false_commands (cmds : List Instr) (s : State) :
    runScript false (cmds.map .command) s = runCommands cmds s := by
  induction cmds generalizing s with
  | nil => rfl
  | cons i rest ih =>
    obtain ⟨u, hu⟩ := exec_next i s
    simp [runScript, runCommands, hu, ih]

@[simp] theorem State.text_respond (s : State) (c : RespCode) : (s.respond c).text = s.text := rfl

@[simp] theorem State.text_setFlag (s : State) (f : Flag) (v : Bool) : (s.setFlag f v).text = s.text := rfl

@[simp] theorem State.textMax_respond (s : State) (c : RespCode) : (s.respond c).textMax = s.textMax := rfl

@[simp] theorem State.textMax_setFlag (s : State) (f : Flag) (v : Bool) : (s.setFlag f v).textMax = s.textMax := rfl

theorem State.length_text (hlen : s.tlen.toNat ≤ s.textMax) : s.text.length = s.tlen.toNat :=
  List.length_take_of_le hlen

/-- A character stored where there is room ends the text. -/
theorem State.text_putChar {c : Byte} (hmax : s.textMax ≤ 65535) (hroom : s.tlen.toNat < s.textMax) :
    (s.putChar c).text = s.text ++ [c] := by
  have hset : s.tlen.toNat < (s.tbuf.set s.tlen.toNat c).length := by rwa [List.length_set]
  rw [State.text, tlen_putChar hmax hroom, State.putChar_tbuf, List.take_succ_eq_append_getElem hset,
    List.getElem_set_self, List.take_set_of_le le_rfl]
  rfl

/-- What the block holds after TCLR and the TCHRs of the text given (43 R140): the ASCII characters as far as they fit; `NASC` says that another byte was given, `TOVF` that an ASCII character found no room. -/
structure State.HoldsText (s : State) (given : List Byte) : Prop where
  tlen_legal : s.tlen.toNat ≤ s.textMax
  text_eq : s.text = (given.filter asciiByte).take s.textMax
  nasc_eq : s.flag .nasc = given.any fun c => !asciiByte c
  tovf_eq : s.flag .tovf = decide (s.textMax < (given.filter asciiByte).length)

/-- The count is the number of ASCII characters given, as far as they fit. -/
theorem State.HoldsText.tlen_eq (hs : s.HoldsText given) :
    s.tlen.toNat = min s.textMax (given.filter asciiByte).length := by
  rw [← State.length_text hs.tlen_legal, hs.text_eq, List.length_take]

/-- One more character (43 R140): another byte sets `NASC`, an ASCII one sets `TOVF` when the buffer is full, and is stored when it is not. -/
theorem State.HoldsText.exec_tchr {c : Byte} (hs : s.HoldsText given) (hmax : s.textMax ≤ 65535)
    (h : exec (.tchr c) s = .next t) : t.HoldsText (given ++ [c]) := by
  have hlen := hs.tlen_eq
  obtain ⟨hlegal, htext, hnasc, htovf⟩ := hs
  obtain ⟨hc, rfl⟩ | ⟨hc, hfull, rfl⟩ | ⟨hc, hroom, rfl⟩ := exec_tchr_cases h
  case inl =>
    have hother : asciiByte c = false := decide_eq_false (not_lt.mpr hc)
    have hfilter : (given ++ [c]).filter asciiByte = given.filter asciiByte := by simp [hother]
    constructor <;> simp [hfilter, hother, hlegal, htext, htovf, State.flag_setFlag]
  all_goals
    have hascii : asciiByte c = true := decide_eq_true hc
    have hfilter : (given ++ [c]).filter asciiByte = given.filter asciiByte ++ [c] := by simp [hascii]
  · have hbeyond : s.textMax ≤ (given.filter asciiByte).length := by omega
    constructor <;>
      simp [hfilter, hascii, hlegal, htext, hnasc, hbeyond, State.flag_setFlag, List.take_append_of_le_length]
  · have hlt : s.tlen.toNat < s.textMax := lt_of_le_of_ne hlegal hroom
    have hfits : (given.filter asciiByte).length < s.textMax := by omega
    constructor
    · rw [State.respond_tlen, tlen_putChar hmax hlt, State.textMax_respond, State.textMax_putChar]
      exact hlt
    · rw [State.text_respond, State.text_putChar hmax hlt, htext, hfilter, List.take_of_length_le hfits.le,
        List.take_of_length_le (by simpa using hfits)]
    · simp [hascii, hnasc]
    · simp [hfilter, htovf, not_lt.mpr hfits.le, not_le.mpr hfits]

/-- `TCLR` starts a text (43 R139). -/
theorem exec_tclr_holdsText (h : exec .tclr s = .next t) : t.HoldsText [] := by
  obtain rfl := Host.Outcome.next.inj h
  constructor <;> simp [State.flag_setFlag, State.text]

theorem State.HoldsText.runCommands_tchrs (hs : s.HoldsText given) (hmax : s.textMax ≤ 65535)
    (h : runCommands (text.map .tchr) s = .next t) : t.HoldsText (given ++ text) := by
  induction text generalizing s given with
  | nil =>
    obtain rfl := Host.Outcome.next.inj h
    rwa [List.append_nil]
  | cons c rest ih =>
    obtain ⟨u, hu, hrun⟩ := runCommands_cons_iff.mp h
    have hrest := ih (hs.exec_tchr hmax hu) ((exec_textMax hu).trans_le hmax) hrun
    rwa [List.append_assoc] at hrest

/-- Gathering a text sends nothing: only `EMIT` and `TSEND` use the channel (20 R52). -/
theorem channel_of_mem_gather {i : Instr} (hi : i ∈ Instr.tclr :: text.map .tchr) (h : exec i s = .next t) :
    t.channel = s.channel := by
  obtain hsame | ⟨rfl, -⟩ | ⟨rfl, -⟩ := exec_channel_cases h
  · exact hsame
  all_goals simp at hi

/-- `TCLR` and the `TCHR`s of a text leave the block holding it, with the channel as it was. -/
theorem runCommands_gather (text : List Byte) (hmax : s.textMax ≤ 65535) :
    ∃ u, runCommands (.tclr :: text.map .tchr) s = .next u ∧ u.HoldsText text ∧
      u.channel = s.channel ∧ u.textMax = s.textMax := by
  obtain ⟨u, hu⟩ := runCommands_next (.tclr :: text.map .tchr) s
  obtain ⟨v, hv, hrun⟩ := runCommands_cons_iff.mp hu
  have hholds := (exec_tclr_holdsText hv).runCommands_tchrs ((exec_textMax hv).trans_le hmax) hrun
  exact ⟨u, hu, hholds, runCommands_keeps (fun _ hi _ _ => channel_of_mem_gather hi) hu,
    runCommands_keeps (fun _ _ _ _ => exec_textMax) hu⟩

/-- The run of a DISPLAY: the text gathered, then the `TSEND`, which reports the errors (30 R87). -/
theorem Pseudo.run_display {u : State} (h : runCommands (.tclr :: text.map .tchr) s = .next u)
    (hsend : exec .tsend u = .next t) : Pseudo.run (.display text) s = .next t :=
  (runScript_false_commands _ s).trans (runCommands_concat h hsend)

/-- The display frame of a text that is all ASCII and fits is the source's (43 R135). -/
theorem State.HoldsText.displayBytes_eq (hs : s.HoldsText text) (hascii : text.filter asciiByte = text)
    (hfits : text.length ≤ s.textMax) : s.displayBytes = encodeDisplayText text := by
  have hlen := hs.tlen_eq
  have htext := hs.text_eq
  rw [hascii, min_eq_right hfits] at hlen
  rw [hascii, List.take_of_length_le hfits] at htext
  rw [State.displayBytes, State.displayText_eq, hlen, htext, encodeDisplayText]
  simp only [List.length_eq_zero_iff]

/-- Settles O41: what the block holds of the text decides which outcome of `exec_tsend_cases` the call ends with. -/
theorem displayCallRefinesEncodeDisplayText : Obligations.DisplayCallRefinesEncodeDisplayText := by
  intro text s _ hmax
  obtain ⟨u, hu, hholds, hchannel, hcapacity⟩ := runCommands_gather text hmax
  obtain ⟨t, ht⟩ := exec_next .tsend u
  refine ⟨t, Pseudo.run_display hu ht, ?_⟩
  have hnasc_eq := hholds.nasc_eq
  have htovf_eq := hholds.tovf_eq
  obtain ⟨hnasc, rfl⟩ | ⟨hnasc, htovf, rfl⟩ | ⟨hnasc, htovf, rfl⟩ := exec_tsend_cases ht
  all_goals rw [← hnasc_eq, hnasc]
  · exact ⟨hchannel, List.getLast?_concat⟩
  all_goals
    have hascii : text.filter asciiByte = text := by simpa using hnasc_eq.symm.trans hnasc
    rw [hascii, htovf, hcapacity] at htovf_eq
  · rw [if_pos (of_decide_eq_true htovf_eq.symm)]
    exact ⟨hchannel, List.getLast?_concat⟩
  · have hfits := of_decide_eq_false htovf_eq.symm
    have hbytes := hholds.displayBytes_eq hascii (hcapacity ▸ not_lt.mp hfits)
    rw [if_neg hfits, ← hbytes, ← hchannel]
    exact ⟨rfl, List.getLast?_concat⟩

end Sys2Proof.Machine
end

section
/-! The control commands `NOP` and `RD` (44 R150 to R152): what they answer, and that they only answer. -/

namespace Sys2Proof.Machine

/-- Settles O43: the word's two fields are the table's, an operand is refused, and the arm only responds. -/
theorem nopDoesNothing : Obligations.NopDoesNothing :=
  ⟨⟨rfl, rfl⟩, operandRefused_of_decodeFields fun _ => rfl, fun _ => rfl⟩

/-! ### `RD` -/

/-- The numbers of 10 R36, each with the value its register reads as. -/
def State.numberedValues (s : State) : List (Byte × Word) := Reg.all.map fun r => (r.number, s.readReg r)

/-- An `RD` of a number of the table answers that register's value (44 R151). -/
theorem exec_rd_of_mem_numberedValues {s : State} {n : Byte} {v : Word} (h : (n, v) ∈ s.numberedValues) :
    exec (.rd (RegSel.ofNumber n)) s = .next (s.respondWith .ok v) := by
  obtain ⟨r, -, hr⟩ := List.mem_map.mp h
  obtain ⟨rfl, rfl⟩ := Prod.mk.inj hr
  rw [ofNumber_number_reg]
  rfl

/-- An `RD` of any other number is refused (44 R152). -/
theorem exec_rd_of_unassignedNumber {n : Byte} (hn : unassignedNumber n = true) (s : State) :
    exec (.rd (RegSel.ofNumber n)) s = .next (s.respond .badRegister) := by
  rw [ofNumber_of_unassignedNumber hn]
  rfl

/-- Settles O44: the statement's table is `State.numberedValues`, and its three ranges are the unassigned numbers. -/
theorem rdReadsRegisterByNumber : Obligations.RdReadsRegisterByNumber := by
  intro n
  obtain ⟨hwf, hnumber⟩ := ofNumber_spec n
  have hword : encode (.rd (RegSel.ofNumber n)) = 0x40#8 ++ n := congrArg (0x40#8 ++ ·) hnumber
  refine ⟨⟨decode_eq_command_iff.mpr ⟨hwf, hword⟩, hword⟩, fun s => ⟨fun v hv => ?_, fun hrange => ?_⟩⟩
  · have hmem : (n, v) ∈ s.numberedValues := hv
    exact exec_rd_of_mem_numberedValues hmem
  · have hfree : unassignedNumber n = true := by simpa [unassignedNumber, or_assoc] using hrange
    exact exec_rd_of_unassignedNumber hfree s

end Sys2Proof.Machine
end

section
/-! One handshake attempt (45 R162 to R166): its mismatch is that of the first step whose answer is not accepted, and its actions are the exchanges of the steps up to that one. -/

namespace Sys2Proof.Machine

/-! ### What a step accepts -/

/-- A step that expects one byte accepts that byte only (45 R164). -/
@[simp] theorem Expect.accepts_exactly_iff {b : Byte} {a : Option Byte} :
    (Expect.exactly b).accepts a = true ↔ a = some b := by
  cases a with
  | none => simp [Expect.accepts]
  | some r => simp [Expect.accepts]

/-- A step that expects any byte fails only on an empty read (45 R165). -/
@[simp] theorem Expect.accepts_anyByte_iff {a : Option Byte} : Expect.anyByte.accepts a = true ↔ a ≠ none := by
  cases a with
  | none => simp [Expect.accepts]
  | some r => simp [Expect.accepts]

/-! ### Running steps -/

/-- What the host does in a step that gets the answer `a`: write, wait, read (45 R162). -/
def HandshakeStep.exchange (st : HandshakeStep) (a : Option Byte) : List HostAction :=
  [.write st.write, .wait Config.HANDSHAKE_STEP_MS, .read a]

/-- What the host would do if no step ended the attempt. -/
def exchanges (steps : List HandshakeStep) (answers : List (Option Byte)) : List HostAction :=
  (List.zipWith HandshakeStep.exchange steps answers).flatten

section
variable {k : Nat} {st : HandshakeStep} {rest : List HandshakeStep} {a : Option Byte} {answers : List (Option Byte)}

@[simp] theorem exchanges_cons :
    exchanges (st :: rest) (a :: answers) = st.exchange a ++ exchanges rest answers := rfl

@[simp] theorem runSteps_nil : runSteps k [] answers = ([], none) := rfl

/-- An accepted answer: the exchange, then the next step (45 R162). -/
theorem runSteps_of_accepts (h : st.expect.accepts a = true) :
    runSteps k (st :: rest) (a :: answers) =
      (st.exchange a ++ (runSteps (k + 1) rest answers).1, (runSteps (k + 1) rest answers).2) := by
  rw [runSteps, if_pos h]
  rfl

/-- An answer not accepted ends the attempt after its exchange (45 R162, R166). -/
theorem runSteps_of_not_accepts (h : ¬ st.expect.accepts a = true) :
    runSteps k (st :: rest) (a :: answers) = (st.exchange a, some ⟨k, a⟩) := by
  rw [runSteps, if_neg h]
  rfl

/-- The mismatch is that of the first step whose answer is not accepted. -/
theorem mismatch_runSteps_cons :
    (runSteps k (st :: rest) (a :: answers)).2 =
      if st.expect.accepts a then (runSteps (k + 1) rest answers).2 else some ⟨k, a⟩ := by
  split
  case isTrue h => rw [runSteps_of_accepts h]
  case isFalse h => rw [runSteps_of_not_accepts h]

end

/-- How many of `total` actions an attempt does that ends as `outcome`: three for every step up to the one that fails, or all. -/
def actionCount (outcome : Option HandshakeMismatch) (total : Nat) : Nat :=
  (outcome.map fun m => 3 * m.step).getD total

/-- The actions are the exchanges up to the step that fails; `before` are those of the steps before step `k`, three each. -/
theorem append_runSteps_actions {k : Nat} {before : List HostAction} (hbefore : before.length + 3 = 3 * k)
    (steps : List HandshakeStep) (answers : List (Option Byte)) :
    before ++ (runSteps k steps answers).1 =
      (before ++ exchanges steps answers).take
        (actionCount (runSteps k steps answers).2 (before ++ exchanges steps answers).length) := by
  induction steps generalizing k before answers with
  | nil => simp [exchanges, actionCount]
  | cons st rest ih =>
    cases answers with
    | nil => simp [runSteps, exchanges, actionCount]
    | cons a answers =>
      have hnext : (before ++ st.exchange a).length = 3 * k := by
        rw [List.length_append, ← hbefore]
        rfl
      rw [exchanges_cons, ← List.append_assoc]
      by_cases h : st.expect.accepts a = true
      · rw [runSteps_of_accepts h, ← List.append_assoc]
        exact ih (by rw [hnext]; rfl) answers
      · rw [runSteps_of_not_accepts h]
        exact (List.take_left' hnext).symm

/-! ### An attempt -/

/-- The actions of an attempt: the clear, the settle and the exchanges up to the step that fails. -/
theorem attempt_actions (v : HandshakeVariant) (a : Answers) :
    (attempt v a).1 = [.bufferClear, .wait Config.SETTLE_AFTER_CLEAR_MS] ++
      (exchanges v.steps a.list).take (actionCount (attempt v a).2 (exchanges v.steps a.list).length) := by
  have hrun : (runSteps 1 v.steps a.list).1 = _ := append_runSteps_actions (before := []) rfl v.steps a.list
  exact congrArg (_ ++ ·) hrun

/-- The mismatch of an attempt of three steps, for each step that can fail. -/
theorem attempt_mismatch {v : HandshakeVariant} {x y z : HandshakeStep} (hsteps : v.steps = [x, y, z]) (a : Answers) :
    (attempt v a).2 =
      if x.expect.accepts a.first then
        if y.expect.accepts a.second then
          if z.expect.accepts a.third then none else some ⟨3, a.third⟩
        else some ⟨2, a.second⟩
      else some ⟨1, a.first⟩ := by
  have hrun : (attempt v a).2 = (runSteps 1 [x, y, z] [a.first, a.second, a.third]).2 := by rw [← hsteps]; rfl
  rw [hrun, mismatch_runSteps_cons, mismatch_runSteps_cons, mismatch_runSteps_cons, runSteps_nil]

/-- Settles O56: each step accepts one byte, and the actions stop at the first that fails. -/
theorem vanillaNamesFirstFailingStep : Obligations.VanillaNamesFirstFailingStep := by
  intro a
  refine ⟨?_, attempt_actions .vanilla a⟩
  rw [attempt_mismatch rfl a]
  simp only [Expect.accepts_exactly_iff, ite_not]

end Sys2Proof.Machine
end

section
/-! The events of the host's session (45 R160, R165, R169, R170): what each can do to the link. -/

namespace Sys2Proof.Machine

variable {n : Option Nat} {e : LinkEvent} {s t : Session} {v : HandshakeVariant} {a : Answers}

/-- The policy is exhausted exactly when it has a bound and the failures have reached it (45 R169). -/
theorem exhausted_iff {failures : Nat} : exhausted n failures = true ↔ ∃ bound, n = some bound ∧ bound ≤ failures := by
  cases n with
  | none => simp [exhausted]
  | some bound => simp [exhausted]

/-- The four things an event of the session can be (45 R160). -/
theorem Session.step_cases (h : Session.step n e s = some t) :
    (∃ v, e = .start v ∧ s.link = .unestablished ∧ t = { s with link := .handshaking, variant := some v }) ∨
    (∃ v a, e = .finish a ∧ s.link = .handshaking ∧ s.variant = some v ∧ (attempt v a).2 = none ∧
      t = s.succeed v a (attempt v a).1) ∨
    (∃ v a m, e = .finish a ∧ s.link = .handshaking ∧ s.variant = some v ∧ (attempt v a).2 = some m ∧
      t = s.fail n m (attempt v a).1) ∨
    (e = .close ∧ s.link = .ready ∧ t = { s with link := .closed }) := by
  unfold Session.step at h
  split at h
  case h_1 v hlink => exact .inl ⟨v, rfl, hlink, (Option.some.inj h).symm⟩
  case h_2 a v hlink hvariant =>
    dsimp only at h
    split at h
    case h_1 hnone => exact .inr (.inl ⟨v, a, rfl, hlink, hvariant, hnone, (Option.some.inj h).symm⟩)
    case h_2 m hsome => exact .inr (.inr (.inl ⟨v, a, m, rfl, hlink, hvariant, hsome, (Option.some.inj h).symm⟩))
  case h_3 hlink => exact .inr (.inr (.inr ⟨rfl, hlink, (Option.some.inj h).symm⟩))
  case h_4 => exact nomatch h

/-- An attempt under way that meets no mismatch ends in `Session.succeed` (45 R160, R170). -/
theorem Session.step_finish_of_no_mismatch (hlink : s.link = .handshaking) (hvariant : s.variant = some v)
    (hnone : (attempt v a).2 = none) : Session.step n (.finish a) s = some (s.succeed v a (attempt v a).1) := by
  simp only [Session.step, hlink, hvariant, hnone]

/-- A failed attempt ends in Failed when the policy is exhausted, and else leaves the link unestablished (45 R160). -/
theorem Session.link_fail_cases (s : Session) (n : Option Nat) (m : HandshakeMismatch) (acts : List HostAction) :
    (exhausted n (s.fail n m acts).failures = true ∧ (s.fail n m acts).link = .failed) ∨
    (s.fail n m acts).link = .unestablished := by
  cases hexhausted : exhausted n (s.failures + 1)
  · exact .inr (by simp [Session.fail, hexhausted])
  · exact .inl ⟨hexhausted, by simp [Session.fail, hexhausted]⟩

/-- Settles O57: step 3 accepts any byte, and the attempt that succeeds ends in `Session.succeed`. -/
theorem chocolateTakesAnyIdentifier : Obligations.ChocolateTakesAnyIdentifier := by
  intro a
  refine ⟨?_, attempt_actions .chocolate a, fun n s hlink hvariant hnone => ?_⟩
  · rw [attempt_mismatch rfl a]
    cases hthird : a.third with
    | none => simp
    | some b => simp
  · exact ⟨_, Session.step_finish_of_no_mismatch hlink hvariant hnone, rfl, rfl⟩

/-- Settles O58: of the four things an event can be, one reaches Ready, and only a failed attempt can reach Failed. -/
theorem sessionFollowsLifecycle : Obligations.SessionFollowsLifecycle := by
  intro n e s t h
  obtain ⟨v, -, hlink, rfl⟩ | ⟨v, a, he, hlink, hvariant, hnone, rfl⟩ | ⟨v, a, m, -, hlink, -, -, rfl⟩ |
    ⟨-, hlink, rfl⟩ := Session.step_cases h
  · rw [hlink]
    exact ⟨rfl, nofun, nofun⟩
  · rw [hlink]
    exact ⟨rfl, fun _ => ⟨v, a, hvariant, he, hnone, rfl⟩, nofun⟩
  · rw [hlink]
    obtain ⟨hexhausted, hfailed⟩ | hretry := Session.link_fail_cases s n m (attempt v a).1
    · rw [hfailed]
      exact ⟨rfl, nofun, fun _ => exhausted_iff.mp hexhausted⟩
    · rw [hretry]
      exact ⟨rfl, nofun, nofun⟩
  · rw [hlink]
    exact ⟨rfl, nofun, nofun⟩

end Sys2Proof.Machine
end

section
/-! Exceptions (60 R180, R196): no command is without a next state, and the numbers the response codes leave unused. -/

namespace Sys2Proof.Machine

/-- Settles O9: every arm of `exec` is a `next`, whatever it tests (`exec_next`). -/
theorem execTotal : Obligations.ExecTotal := exec_next

/-- The numbers the table of 60 R180 leaves unused, read off code by code. -/
theorem RespCode.number_assigned (c : RespCode) : c.number ≠ 0x03#8 ∧ c.number.toNat < 0x0A := by
  cases c <;> decide

/-- Settles O10: the nine numbers are the table's rows, and each of them avoids the unused ones. -/
theorem responseCodeNumbers : Obligations.ResponseCodeNumbers :=
  ⟨rfl, rfl, rfl, rfl, rfl, rfl, rfl, rfl, rfl, RespCode.number_assigned⟩

end Sys2Proof.Machine
end

section
/-! Reset and hazards (70 R201 to R204, R209): what is left alone between commands, what runs first after reset, and which flags stay set. -/

namespace Sys2Proof.Machine

variable {s t : State} {i : Instr}

/-! ### The poison flags (70 R209) -/

/-- A non-ASCII character or one too many is refused by setting a flag, and a stored one sets none: no `TCHR` clears a flag (43 R140). -/
theorem exec_tchr_keeps_flag {c : Byte} {f : Flag} (h : exec (.tchr c) s = .next t) (hf : s.flag f = true) :
    t.flag f = true := by
  obtain ⟨-, rfl⟩ | ⟨-, -, rfl⟩ | ⟨-, -, rfl⟩ := exec_tchr_cases h <;> simp [State.flag_setFlag, hf]

theorem exec_push_keeps_unk {li : LogicalInput} (h : exec (.push li) s = .next t) (hunk : s.flag .unk = true) :
    t.flag .unk = true := by
  obtain rfl := Host.Outcome.next.inj h
  cases li with
  | button | dpad => exact hunk
  | unknown c => simp [State.applyInput, State.flag_setFlag]

theorem exec_keeps_unk (hclr : i ≠ .clr) (h : exec i s = .next t) (hunk : s.flag .unk = true) :
    t.flag .unk = true := by
  by_contra hcleared
  have hne : t.flag .unk ≠ s.flag .unk := fun heq => hcleared (heq.trans hunk)
  obtain hi | ⟨c, rfl⟩ := flagsChangedOnlyByTheirCommands.2 i s t .unk h hne
  · exact hclr hi
  · exact hcleared (exec_push_keeps_unk h hunk)

/-- The two flags of the text have the same writers, `TCLR` and `TCHR` (10 R33). -/
theorem exec_keeps_textFlag {f : Flag} (hf : f = .nasc ∨ f = .tovf) (htclr : i ≠ .tclr) (h : exec i s = .next t)
    (hset : s.flag f = true) : t.flag f = true := by
  by_contra hcleared
  have hne : t.flag f ≠ s.flag f := fun heq => hcleared (heq.trans hset)
  have hwriter : i = .tclr ∨ ∃ c, i = .tchr c := by
    obtain rfl | rfl := hf <;> exact flagsChangedOnlyByTheirCommands.2 i s t _ h hne
  obtain hi | ⟨c, rfl⟩ := hwriter
  · exact htclr hi
  · exact hcleared (exec_tchr_keeps_flag h hset)

/-- Settles O53: of a flag's writers (O51), all but the one that ends the call or the text only set it. -/
theorem poisonPersists : Obligations.PoisonPersists := fun _ _ _ h =>
  ⟨fun hclr => exec_keeps_unk hclr h, fun htclr => exec_keeps_textFlag (.inl rfl) htclr h,
    fun htclr => exec_keeps_textFlag (.inr rfl) htclr h⟩

/-! ### Waiting, and reset between commands (70 R201, R202) -/

/-- Settles O7: with no command presented, a step takes its first branch. -/
theorem stepWaitsForCommand : Obligations.StepWaitsForCommand := by
  intro s hnone
  rw [step, hnone]

/-- Settles O47: `State.resetEvent` is `State.resetWith` with the fields that are no registers kept, and those `State.registersOf` blanks. -/
theorem resetEventLeavesChannel : Obligations.ResetEventLeavesChannel :=
  fun _ => ⟨rfl, rfl, rfl, rfl, rfl⟩

/-! ### The first commands after reset (70 R204) -/

@[simp] theorem State.flag_reset (f : Flag) : State.reset.flag f = false := State.flag_resetWith Config.TEXT_MAX f

theorem State.tx_reset : State.reset.tx = [] := rfl

/-- The registers of a packet at reset are the arguments of an encode call without inputs (41 R100, R103). -/
theorem encodePacket_neutral_eq_reset : encodePacket [] {} = some State.reset.packetFields.assemble := rfl

/-- No character is gathered at reset, so one space stands for the text (43 R141). -/
theorem State.displayText_reset : State.reset.displayText = [Config.TEXT_FILL] := rfl

theorem exec_tsend_of_not_poisoned (hnasc : s.flag .nasc = false) (htovf : s.flag .tovf = false) :
    exec .tsend s = .next ((s.txEmit (Config.SENTINEL ++ s.displayText)).respond .ok) := by
  simp only [exec, execTsend, hnasc, htovf, Bool.false_eq_true, if_false]

/-- Settles O46: no flag refuses `EMIT` or `TSEND` at reset, and an empty frame buffer is not full. -/
theorem firstCommandsAfterReset : Obligations.FirstCommandsAfterReset := by
  have hneutral := neutralFrame
  rw [Obligations.NeutralFrame, encodePacket_neutral_eq_reset] at hneutral
  have hshort : State.reset.flen ≠ fullCount := by decide
  refine ⟨⟨_, exec_emit_of_not_unk (State.flag_reset .unk), ?_⟩,
    ⟨_, exec_tsend_of_not_poisoned (State.flag_reset .nasc) (State.flag_reset .tovf), ?_⟩,
    _, exec_dchk_of_short hshort, rfl⟩
  · rw [State.tx_sendPacket, State.tx_reset, Option.some.inj hneutral, List.nil_append]
  · rw [State.displayText_reset]
    rfl

/-! ### The block beside the link (70 R203) -/

theorem step_next (s : State) : ∃ t, step s = .next t := by
  cases hcmds : s.hostCmds with
  | nil => exact ⟨s, stepWaitsForCommand s hcmds⟩
  | cons w rest =>
    obtain ⟨t, -, ht, -⟩ := oneResponsePerCommand.1 s w rest hcmds
    exact ⟨t, ht⟩

theorem State.runWord_eq_some {w : Word} (h : step (s.present (w :: s.hostCmds)) = .next t) :
    s.runWord w = some t := by
  rw [State.runWord, h]

theorem System.step_command {w : Word} {y : System} (h : y.codec.runWord w = some t) (n : Option Nat) :
    System.step n (.command w) y = some { y with codec := t } := by
  rw [System.step, h, Option.map_some]

/-- Settles O55: `System.step` asks the session nothing, so the block's own step decides in any session. -/
theorem blockIgnoresLinkState : Obligations.BlockIgnoresLinkState := by
  intro n w y other
  obtain ⟨t, ht⟩ := step_next (y.codec.present (w :: y.codec.hostCmds))
  have hrun : y.codec.runWord w = some t := State.runWord_eq_some ht
  exact ⟨t, hrun, ht, System.step_command hrun n, System.step_command (y := { y with session := other }) hrun n⟩

end Sys2Proof.Machine
end
